-- ==== Sys2Proof/Word.lean ====
section
/-! DEFINITION. The octet of the desk link and the millisecond stamp, the two plain values every other file uses. -/

namespace Sys2Proof

/-- One octet of the desk link (R147). -/
abbrev Octet := BitVec 8

/-- A box-time value in milliseconds (R1): a stamp, an expiry time or a sample time. "Every comparison
of stamps in this manual is an ordinary comparison of numbers", so it is a plain number. -/
abbrev Stamp := Nat

end Sys2Proof
end

