-- ==== Sys2Proof/Machine/Types.lean ====
section
/-! DEFINITION. The names and records of the CC-716: levels, views, modules, contacts, objects, journal records,
press outputs and slots, the desk link's frames, and the configuration image. Each type cites the rule that lists it. -/

namespace Sys2Proof.Machine

/-! ### Contacts (chapters 2 and 3) -/

/-- A known contact level, OPEN or CLOSED. UNKNOWN (R24) is written `none : Option Level`. -/
inductive Level where
  | opened
  | closed
deriving DecidableEq, Repr

/-- The level view of a contact (R33). -/
inductive LevelView where
  | unknown
  | chatter
  | active
  | inactive
deriving DecidableEq, Repr

/-- The lamp view of a contact (R34). -/
inductive LampView where
  | unknown
  | flashing
  | irregular
  | lit
  | dark
deriving DecidableEq, Repr

/-- The flash class (R37 to R48). -/
inductive FlashClass where
  | steady
  | flashing
  | irregular
deriving DecidableEq, Repr

/-- A level not yet accepted, with its agreement count and the sample time of its first sample (2.2). Candidate,
count and stamp are present together, so they are one record. -/
structure Candidate where
  level : Level
  count : Nat
  stamp : Stamp
deriving DecidableEq, Repr

/-- The flash record of a contact (3.2). -/
structure FlashRecord where
  cls : FlashClass
  leading : Option Stamp
  trailing : Option Stamp
  conforming : Nat
  lastPeriod : Option Nat
  lastOn : Option Nat
deriving DecidableEq, Repr

/-- The filter record (2.2) and flash record (3.2) of one contact. -/
structure Contact where
  accepted : Option Level
  candidate : Option Candidate
  chatterCount : Nat
  leakRef : Option Stamp
  chattering : Bool
  profile : Nat
  flash : FlashRecord
deriving DecidableEq, Repr

/-- A contact profile (R21): filter depth K, chatter limit H, leak period L, flash profile. -/
structure ContactProfile where
  depth : Nat
  limit : Nat
  leak : Nat
  flash : Option Nat
deriving DecidableEq, Repr

/-- A flash profile (R37). `active` is the contact level that counts as "on". -/
structure FlashProfile where
  pMin : Nat
  pMax : Nat
  dMin : Nat
  dMax : Nat
  confirm : Nat
  active : Level
deriving DecidableEq, Repr

/-- One entry of a batch (R35); the views are those of a plain reference. -/
structure BatchEntry where
  contact : Nat
  accepted : Option Level
  level : LevelView
  lamp : LampView
  acceptedChanged : Bool
  levelChanged : Bool
  lampChanged : Bool
  stamp : Stamp
deriving DecidableEq, Repr

/-! ### Modules (chapter 1) -/

/-- The state of a mapped module (1.4). -/
inductive ModuleState where
  | inService
  | failed
  | recovering
  | outOfService
deriving DecidableEq, Repr

/-- Why a module read fails (R9). -/
inductive FailureCause where
  | noAnswer
  | wrongType
  | busCheck
deriving DecidableEq, Repr

/-- Where a recovery began (R12). -/
inductive RecoveryOrigin where
  | fresh
  | failed
deriving DecidableEq, Repr

/-- A module's fault latch when it is held (R15). -/
structure ModuleLatch where
  cause : FailureCause
  stamp : Stamp
deriving DecidableEq, Repr

/-- An entry of the module map as defined and as stored (R3, R172). -/
structure ModuleEntry where
  slot : Nat
  size : Nat
  last : Nat
deriving DecidableEq, Repr

/-- A mapped module: its map entry and its fields (1.4). -/
structure ModuleRecord where
  slot : Nat
  size : Nat
  last : Nat
  state : ModuleState
  faultCounter : Nat
  suspect : Bool
  recovery : Nat
  origin : RecoveryOrigin
  latch : Option ModuleLatch
deriving DecidableEq, Repr

/-- What a module's type code names (R9). The code values themselves are not in the spec. -/
inductive TypeCode where
  | size16
  | size32
  | size64
  | other
deriving DecidableEq, Repr

/-- What comes back from one slot in a scan (R9). Bit i of `inputs` is input i, 1 for CLOSED. -/
inductive BusAnswer where
  | nothing
  | parityError
  | answer (code : TypeCode) (inputs : BitVec 64)
deriving DecidableEq, Repr

/-- The answer of one slot, as SCAN_COMPLETION brings it. -/
structure ModuleRead where
  slot : Nat
  answer : BusAnswer
deriving DecidableEq, Repr

/-- How the scanner classifies one read (R9). -/
inductive ReadResult where
  | good (inputs : BitVec 64)
  | bad (cause : FailureCause)
deriving DecidableEq, Repr

/-- A scan in progress (R6, R8): its sample time, the slots it reads, and the slots whose result is to be
discarded because MODULE-SERVICE was accepted for them since it started. -/
structure Scan where
  sampleTime : Stamp
  slots : List Nat
  discarded : List Nat
deriving DecidableEq, Repr

/-- The part state (R16). -/
inductive PartState where
  | unconfigured
  | acquiring
  | running
deriving DecidableEq, Repr

/-- The module scanner's state (chapter 1). `nextScan` is the start of the next scan (R6), absent in
UNCONFIGURED; `lastSample` is the sample time of the most recently completed scan (R2). -/
structure Scanner where
  part : PartState
  acquisition : Nat
  period : Nat
  tolerance : Nat
  modules : List ModuleRecord
  scan : Option Scan
  nextScan : Option Stamp
  lastSample : Option Stamp
deriving DecidableEq, Repr

/-- The contact filter's state (chapter 2), with the flash record of each contact (chapter 3). -/
structure Filter where
  profiles : List ContactProfile
  contacts : List Contact
deriving DecidableEq, Repr

/-! ### Objects (chapters 4 and 5) -/

/-- The five kinds (R52). -/
inductive Kind where
  | track
  | points
  | signal
  | indication
  | relay
deriving DecidableEq, Repr

/-- The roles (R52). -/
inductive Role where
  | clear
  | back
  | normalDetect
  | reverseDetect
  | lock
  | aspect0
  | aspect1
  | aspect2
  | aspect3
  | lamp
  | front
deriving DecidableEq, Repr

/-- The urgency of an object (R51). -/
inductive Urgency where
  | normal
  | allUrgent
deriving DecidableEq, Repr

/-- The state codes of every kind (R55). -/
inductive StateCode where
  | unknown
  | contradiction
  | outOfService
  | clear
  | occupied
  | normal
  | reverse
  | moving
  | lost
  | showing
  | dark
  | off
  | on
  | flashing
  | irregular
  | up
  | down
  | fault
deriving DecidableEq, Repr

/-- The attribute set of a presented state (R55). -/
structure Attrs where
  flashing : Bool
  irregular : Bool
  chatter : Bool
  locked : Bool
  free : Bool
  latched : Bool
deriving DecidableEq, Repr

/-- A presented state: code, aspect and attribute set (R55). -/
structure Presented where
  code : StateCode
  aspect : Option Nat
  attrs : Attrs
deriving DecidableEq, Repr

/-- A reference of an object (R53). -/
structure Reference where
  contact : Nat
  role : Role
  inverted : Bool
deriving DecidableEq, Repr

/-- The definition half of an object record (R51). -/
structure Definition where
  kind : Kind
  refs : List Reference
  timing : Nat
  urgency : Urgency
deriving DecidableEq, Repr

/-- The service state (R51). -/
inductive Service where
  | undefined
  | outOfService
  | inService
deriving DecidableEq, Repr

/-- The two lanes of the change journal (R98). -/
inductive Lane where
  | urgent
  | routine
deriving DecidableEq, Repr

/-- An object's fault latch when it is held (R66). -/
structure ObjectLatch where
  code : StateCode
  stamp : Stamp
deriving DecidableEq, Repr

/-- An object record (R51). `dirty` is the dirty flag with its lane mark. -/
structure ObjectRecord where
  service : Service
  definition : Option Definition
  presented : Option Presented
  lastStamp : Option Stamp
  timer : Option Stamp
  latch : Option ObjectLatch
  dirty : Option Lane
deriving DecidableEq, Repr

/-- Which view a reference reads (R52). -/
inductive ViewKind where
  | level
  | lamp
deriving DecidableEq, Repr

/-- An entry of the reverse index (R64). -/
structure IndexEntry where
  contact : Nat
  object : Nat
  view : ViewKind
  inverted : Bool
deriving DecidableEq, Repr

/-- The object table (chapter 4): the records and the reverse index. -/
structure ObjectTable where
  objects : List ObjectRecord
  index : List IndexEntry
deriving DecidableEq, Repr

/-- The cause of a change (R72). -/
inductive ChangeCause where
  | contact
  | timer
  | module
  | service
  | latch
deriving DecidableEq, Repr

/-- A change of one object, as it is handed on (R74). -/
structure Change where
  object : Nat
  presented : Presented
  cause : ChangeCause
  stamp : Stamp
  lane : Lane
deriving DecidableEq, Repr

/-- The flashing requirement of a check item (R96). -/
inductive FlashReq where
  | steady
  | flashing
  | either
deriving DecidableEq, Repr

/-- A check item (R96). -/
structure CheckItem where
  object : Nat
  code : StateCode
  aspect : Option Nat
  flashing : FlashReq
deriving DecidableEq, Repr

/-! ### Press unit (chapter 7) -/

/-- The state of a press output (R120). -/
inductive OutputState where
  | idle
  | claimed
  | driven
  | releasing
  | faulted
deriving DecidableEq, Repr

/-- Why an output is FAULTED or an operation ended DRIVER-FAULT (R129, R131, R142). -/
inductive DriverCause where
  | stuck
  | noReadback
  | readbackLost
deriving DecidableEq, Repr

/-- The cause carried by an OUTPUT item (R99). -/
inductive OutputCause where
  | fault (cause : DriverCause)
  | cleared
deriving DecidableEq, Repr

/-- A press output record (R118). `sense` is the driven sense of the readback. -/
structure OutputRecord where
  defined : Bool
  pulse : Nat
  readback : Option Nat
  sense : Level
  state : OutputState
  owner : Option Nat
  pulseEnd : Option Stamp
  windowEnd : Option Stamp
  fault : Option DriverCause
deriving DecidableEq, Repr

/-- How an operation ends (R138). -/
inductive PressOutcome where
  | done
  | timedOut
  | expectVoid
  | driverFault
  | aborted
  | inhibited
deriving DecidableEq, Repr

/-- The contents of an active press slot (R125); `step` is the current step, counted from 1. -/
structure Operation where
  tag : Nat
  steps : List Nat
  step : Nat
  gap : Nat
  watch : Nat
  expects : List CheckItem
deriving DecidableEq, Repr

/-- What an ENDED slot reports, and a FREE slot keeps as its last-end report (R138). -/
structure EndReport where
  outcome : PressOutcome
  failing : Option Nat
  cause : Option DriverCause
  stamp : Stamp
deriving DecidableEq, Repr

/-- A press slot (R125). `gap` and `watching` hold their expiry time. -/
inductive Slot where
  | free (last : Option EndReport)
  | waiting (op : Operation)
  | driving (op : Operation)
  | releasing (op : Operation)
  | gap (op : Operation) (expiry : Stamp)
  | watching (op : Operation) (expiry : Stamp)
  | ended (tag : Nat) (report : EndReport)
deriving DecidableEq, Repr

/-- The press unit's state (chapter 7). `permits` says which slot holds each of the two drive permits. -/
structure PressUnit where
  outputs : List OutputRecord
  slots : List Slot
  permits : List (Option Nat)
  queue : List Nat
  inhibit : Bool
deriving DecidableEq, Repr

/-! ### Change journal (chapter 6) -/

/-- A MODULE item (R100). -/
structure ModuleItem where
  slot : Nat
  state : ModuleState
  cause : Option FailureCause
  stamp : Stamp
deriving DecidableEq, Repr

/-- An OUTPUT item (R100). -/
structure OutputItem where
  output : Nat
  state : OutputState
  cause : OutputCause
  stamp : Stamp
deriving DecidableEq, Repr

/-- A record of the journal (R99). -/
inductive Record where
  | change (object : Nat) (presented : Presented) (cause : ChangeCause) (stamp : Stamp)
  | refresh (object : Nat) (presented : Presented) (stamp : Option Stamp)
  | module (item : ModuleItem)
  | output (item : OutputItem)
  | pressEnd (slot : Nat) (tag : Nat) (outcome : PressOutcome) (failing : Option Nat) (stamp : Stamp)
deriving DecidableEq, Repr

/-- The change journal (R98, R100): two lanes, oldest record first, and the held items of modules and outputs. -/
structure Journal where
  urgent : List Record
  routine : List Record
  modulePending : List (Option ModuleItem)
  outputPending : List (Option OutputItem)
deriving DecidableEq, Repr

/-! ### Desk link (chapters 8 and 9) -/

/-- A frame without its FRAME-START, LEN and CHECK octets, which follow from these (R164). -/
structure Frame where
  kind : Octet
  tag : Octet
  body : List Octet
deriving DecidableEq, Repr

/-- A level of the line: the start level, and the stop level at which it idles (R147). -/
inductive LineLevel where
  | start
  | stop
deriving DecidableEq, Repr

/-- The link mode (R158). -/
inductive LinkMode where
  | polled
  | stream
  | echo
deriving DecidableEq, Repr

/-- The receiver (R148): HUNTING, or COLLECTING with the time of the last octet (R149), LEN once it is taken, the
octets taken from KIND on, and the first check octet once it is taken. -/
inductive Receiver where
  | hunting
  | collecting (last : Stamp) (len : Option Octet) (taken : List Octet) (checkHigh : Option Octet)
deriving DecidableEq, Repr

/-- Why the receiver discards a frame (R148, R149); `gap` carries the late octet. -/
inductive DiscardCause where
  | badLen
  | badCheck
  | gap (late : Octet)
  | framingError
deriving DecidableEq, Repr

/-- The desk link's state (chapter 8). `sending` is the frame on the line; `restarting` holds from the acceptance of
RESTART to the reinitialisation (R162). -/
structure Link where
  receiver : Receiver
  replies : List Frame
  sending : Option Frame
  mode : LinkMode
  hold : Bool
  dropped : Bool
  restarting : Bool
deriving DecidableEq, Repr

/-- The result codes (00_scope, section 8; R165). -/
inductive ResultCode where
  | ok
  | busy
  | badParam
  | badState
  | notDefined
  | noSlot
  | claimed
  | outputFault
  | inhibited
  | stillActive
  | unknownKind
deriving DecidableEq, Repr

/-- What an owner answers: the result code and the octets that follow the status summary (R152). -/
structure Reply where
  result : ResultCode
  fields : List Octet
deriving DecidableEq, Repr

/-! ### Configuration store (chapter 10) -/

/-- The sampled straps (R147, R160, R177); `true` is closed. -/
structure Straps where
  rate1 : Bool
  rate0 : Bool
  unit : Nat
  pressEnable : Bool
  storeIgnore : Bool
deriving DecidableEq, Repr

/-- An object of the image: its definition and its service flag (R172). -/
structure StoredObject where
  definition : Definition
  inService : Bool
deriving DecidableEq, Repr

/-- An output of the image (R172). -/
structure StoredOutput where
  pulse : Nat
  readback : Option Nat
  sense : Level
deriving DecidableEq, Repr

/-- The contents of an image (R172), without its checksum. -/
structure ImageContents where
  period : Nat
  tolerance : Nat
  map : List ModuleEntry
  profiles : List ContactProfile
  assignments : List Nat
  flashProfiles : List FlashProfile
  objects : List (Option StoredObject)
  outputs : List (Option StoredOutput)
deriving DecidableEq, Repr

/-- What the non-volatile memory holds (R172, R175): nothing yet; an image whose checksum is erased; contents with the
checksum computed over them; or contents with some other stored checksum. -/
inductive StoredImage where
  | neverWritten
  | erased
  | intact (contents : ImageContents)
  | other (contents : ImageContents) (checksum : BitVec 16)
deriving DecidableEq, Repr

/-- The store state (R173). -/
inductive StoreState where
  | idle
  | busy
  | lastOk
  | lastFailed
deriving DecidableEq, Repr

/-- Where a save stands (R175): writing since the SAVE was taken, or reading back since writing ended. -/
inductive SaveStage where
  | writing (since : Stamp)
  | readBack (since : Stamp)
deriving DecidableEq, Repr

/-- A save in progress: its snapshot (R174) and its stage. -/
structure SaveProgress where
  snapshot : ImageContents
  stage : SaveStage
deriving DecidableEq, Repr

/-- The configuration store (chapter 10). -/
structure Store where
  state : StoreState
  image : StoredImage
  imageValid : Bool
  save : Option SaveProgress
deriving DecidableEq, Repr

/-- Whether the part is without power, is loading its configuration (since when), or is operating (R177). -/
inductive Power where
  | off
  | loading (since : Stamp)
  | operating
deriving DecidableEq, Repr

end Sys2Proof.Machine
end

