-- ==== Sys2Proof/Config.lean ====
section
/-! DEFINITION. What one CC-716 fixes: the numbering ranges and capacities the spec states, the fixed times, and the one
thing it leaves open, the octet form of the image's items. -/

namespace Sys2Proof.Config

/-- Contacts are numbered 0 to 2047 (00_scope, section 8). -/
def contacts : Nat := 2048

/-- Module slots are numbered 0 to 31. -/
def moduleSlots : Nat := 32

/-- Objects are numbered 0 to 511. -/
def objects : Nat := 512

/-- Press outputs are numbered 0 to 63. -/
def outputs : Nat := 64

/-- Press slots are numbered 0 to 3. -/
def pressSlots : Nat := 4

/-- There are two drive permits (R126). -/
def permits : Nat := 2

/-- Contact profiles are numbered 0 to 15. -/
def contactProfiles : Nat := 16

/-- Flash profiles are numbered 0 to 7. -/
def flashProfiles : Nat := 8

/-- The URGENT lane holds up to 32 records (R98). -/
def urgentPlaces : Nat := 32

/-- The ROUTINE lane holds up to 224 records (R98). -/
def routinePlaces : Nat := 224

/-- A REPORT frame or a FETCH reply carries up to 8 records (R111, R112). -/
def recordsPerFrame : Nat := 8

/-- The reply queue holds up to 4 frames (R153). -/
def replyPlaces : Nat := 4

/-- The acquisition scan count stops at 64 (R17). -/
def acquisitionLimit : Nat := 64

/-- Recovery takes eight good reads (R12). -/
def recoveryReads : Nat := 8

/-- The release window in milliseconds (R129). -/
def releaseWindow : Nat := 500

/-- Octets of one frame may lie this many milliseconds apart (R149). -/
def octetGap : Nat := 10

/-- A scan ends within 1.9 ms of its sample time (R8): at the latest in the first whole millisecond after it. -/
def scanTime : Nat := 1

/-- The start-up load completes within 100 ms (R177). -/
def loadTime : Nat := 100

/-- Writing ends no later than 1500 ms after the SAVE was taken (R175). -/
def writeTime : Nat := 1500

/-- The read-back comparison ends within 100 ms of the end of writing (R175). -/
def compareTime : Nat := 100

/-- The last value of the 48-bit box time (R1). -/
def lastBoxTime : Nat := 2 ^ 48 - 1

/-- The largest body of a frame (R164). -/
def bodyLimit : Nat := 198

/-! ### The items of the image (R172)

R172 gives the items of the image and their order, and not how an item is written in octets. Each form is therefore a free
value: nothing in Lean can evaluate it. -/

/-- The scan period in the image. -/
opaque periodOctets : Nat → List Octet

/-- The fault tolerance T in the image. -/
opaque toleranceOctets : Nat → List Octet

/-- The module map in the image, its entries in map order. -/
opaque mapOctets : List Machine.ModuleEntry → List Octet

/-- One contact profile in the image. -/
opaque contactProfileOctets : Machine.ContactProfile → List Octet

/-- The profile number of one contact in the image. -/
opaque assignmentOctets : Nat → List Octet

/-- One flash profile in the image. -/
opaque flashProfileOctets : Machine.FlashProfile → List Octet

/-- One of the 512 object entries of the image. -/
opaque objectOctets : Option Machine.StoredObject → List Octet

/-- One of the 64 output entries of the image. -/
opaque outputOctets : Option Machine.StoredOutput → List Octet

end Sys2Proof.Config
end

