-- ==== Sys2Proof/Machine/Octets.lean ====
section
/-! DEFINITION. How numbers and absent values are written in octets (R163), and the frame check (R150). -/

namespace Sys2Proof.Machine

/-- A one-octet number. -/
def oct (n : Nat) : Octet := BitVec.ofNat 8 n

/-- A two-octet number, most significant octet first (R163). -/
def oct2 (n : Nat) : List Octet := [oct (n / 2 ^ 8), oct n]

/-- A six-octet stamp, most significant octet first (R163). -/
def oct6 (n : Nat) : List Octet :=
  [oct (n / 2 ^ 40), oct (n / 2 ^ 32), oct (n / 2 ^ 24), oct (n / 2 ^ 16), oct (n / 2 ^ 8), oct n]

/-- A one-octet number that may be absent: 0xFF for absent (R163). -/
def octNum : Option Nat → Octet
  | some n => oct n
  | none => 0xFF#8

/-- A two-octet value that may be absent: 0xFFFF for absent (R163). -/
def octNum2 : Option Nat → List Octet
  | some n => oct2 n
  | none => [0xFF#8, 0xFF#8]

/-- A stamp that may be absent: 0xFFFFFFFFFFFF for absent (R163). -/
def octStamp : Option Stamp → List Octet
  | some n => oct6 n
  | none => [0xFF#8, 0xFF#8, 0xFF#8, 0xFF#8, 0xFF#8, 0xFF#8]

/-- A flag bit: 1 for the condition it names (R163). -/
def bit (b : Bool) : Nat := if b then 1 else 0

/-- The number written by two octets, most significant first (R163). -/
def num2 (hi lo : Octet) : Nat := hi.toNat * 2 ^ 8 + lo.toNat

/-- One bit of the check: the register shifts left, and the generator x^16 + x^12 + x^5 + 1 is taken in when a one
falls out (R150). -/
def crcBit (reg : BitVec 16) : BitVec 16 :=
  if reg.msb then (reg <<< 1) ^^^ 0x1021#16 else reg <<< 1

/-- One octet of the check, most significant bit first (R150). -/
def crcOctet (reg : BitVec 16) (o : Octet) : BitVec 16 :=
  crcBit (crcBit (crcBit (crcBit (crcBit (crcBit (crcBit (crcBit (reg ^^^ ((o.setWidth 16) <<< 8)))))))))

/-- The 16-bit check: the register is preset to all ones and not inverted at the end (R150). -/
def crc (octets : List Octet) : BitVec 16 := octets.foldl crcOctet 0xFFFF#16

/-- LEN of a frame: the octets from KIND to the end of BODY (R164). -/
def frameLen (f : Frame) : Octet := oct (f.body.length + 2)

/-- The octets the check covers, from LEN to the end of BODY (R150). -/
def frameChecked (f : Frame) : List Octet := frameLen f :: f.kind :: f.tag :: f.body

/-- FRAME-START (R148, R164). -/
def frameStart : Octet := 0xC5#8

/-- A whole frame as it stands on the line (R164): FRAME-START, LEN, KIND, TAG, BODY, and the check high octet first. -/
def frameOctets (f : Frame) : List Octet :=
  frameStart :: frameChecked f ++ [(crc (frameChecked f) >>> 8).setWidth 8, (crc (frameChecked f)).setWidth 8]

/-- The octets the checksum of an image covers: "over the contents in the order of the table" (R172), each item in its own
form (assumption 11). -/
def imageOctets (c : ImageContents) : List Octet :=
  Config.periodOctets c.period ++ Config.toleranceOctets c.tolerance ++ Config.mapOctets c.map
    ++ c.profiles.flatMap Config.contactProfileOctets ++ c.assignments.flatMap Config.assignmentOctets
    ++ c.flashProfiles.flatMap Config.flashProfileOctets ++ c.objects.flatMap Config.objectOctets
    ++ c.outputs.flatMap Config.outputOctets

/-- The check of an image's contents: "the same computation as the frame check" over its items (R172). -/
def imageCheck (c : ImageContents) : BitVec 16 := crc (imageOctets c)

end Sys2Proof.Machine
end

