-- ==== Sys2Proof/Syntax.lean ====
section
/-! DEFINITION. The commands of the CC-716: one constructor per row of spec/opcode_table.json. A request's operands are
its TAG and the fields of its body as R168 lays them out, each the number its octets write. -/

namespace Sys2Proof

/-- A module entry as DEFINE-MODULES carries it (R167): slot, size, last contact. -/
structure ModuleEntryField where
  slot : Nat
  size : Nat
  last : Nat
deriving DecidableEq, Repr

/-- A reference as DEFINE-OBJECT carries it (R167): contact, role code, invert flag. -/
structure ReferenceField where
  contact : Nat
  role : Nat
  invert : Nat
deriving DecidableEq, Repr

/-- A check item as CHECK and PRESS carry it (R167): object, state code, aspect, flashing requirement. -/
structure CheckItemField where
  object : Nat
  code : Nat
  aspect : Nat
  flashing : Nat
deriving DecidableEq, Repr

open Sys2Proof.Machine in
/-- The commands. -/
inductive Instr where
  /-- POWER_ON (R177): power is applied; the operand is what the straps read. -/
  | powerOn (straps : Straps)
  /-- POWER_LOSS (R175). -/
  | powerLoss
  /-- START_UP_LOAD_COMPLETE (R177). -/
  | startUpLoadComplete
  /-- SCAN_START (R6). -/
  | scanStart
  /-- SCAN_COMPLETION (R8): what came back from the slots; a slot not listed sent nothing. -/
  | scanCompletion (reads : List ModuleRead)
  /-- OBJECT_TIMER_EXPIRY (R78). -/
  | objectTimerExpiry (object : Nat)
  /-- PULSE_END (R128). -/
  | pulseEnd (output : Nat)
  /-- WINDOW_EXPIRY (R131). -/
  | windowExpiry (output : Nat)
  /-- GAP_EXPIRY (R133). -/
  | gapExpiry (slot : Nat)
  /-- WATCH_EXPIRY (R136). -/
  | watchExpiry (slot : Nat)
  /-- SAVE_WRITING_END (R175): the operand is what the memory then holds, where it is not what was written. -/
  | saveWritingEnd (memory : Option StoredImage)
  /-- SAVE_COMPLETION (R175). -/
  | saveCompletion
  /-- FRAME_DISCARDED (R148, R149). -/
  | frameDiscarded (cause : DiscardCause)
  /-- REQUEST_DROPPED (R151). -/
  | requestDropped (frame : Frame)
  /-- UNKNOWN_KIND (R152). -/
  | unknownKind (frame : Frame)
  /-- ECHO_FRAME (R159). -/
  | echoFrame (frame : Frame)
  /-- FRAME_SENT (R155). -/
  | frameSent
  /-- IDENTIFY (R160). -/
  | identify (tag : Octet)
  /-- READ-TIME (R2). -/
  | readTime (tag : Octet)
  /-- SET-MODE (R158). -/
  | setMode (tag : Octet) (mode : Nat)
  /-- FLOW (R114). -/
  | flow (tag : Octet) (hold : Nat)
  /-- FETCH (R112). -/
  | fetch (tag : Octet) (selection count : Nat)
  /-- SYNC (R110). -/
  | sync (tag : Octet)
  /-- SET-SCAN (R7). -/
  | setScan (tag : Octet) (period tolerance : Nat)
  /-- DEFINE-MODULES (R4). -/
  | defineModules (tag : Octet) (entries : List ModuleEntryField)
  /-- MODULE-SERVICE out (R13). -/
  | moduleServiceOut (tag : Octet) (slot : Nat)
  /-- MODULE-SERVICE in (R14). -/
  | moduleServiceIn (tag : Octet) (slot : Nat)
  /-- READ-MODULES (R18). -/
  | readModules (tag : Octet) (start count : Nat)
  /-- DEFINE-PROFILE (R22). -/
  | defineProfile (tag : Octet) (profile k h l flash : Nat)
  /-- ASSIGN-PROFILE (R23). -/
  | assignProfile (tag : Octet) (first last profile : Nat)
  /-- DEFINE-FLASH (R38). -/
  | defineFlash (tag : Octet) (profile pMin pMax dMin dMax confirm active : Nat)
  /-- READ-CONTACTS (R36). -/
  | readContacts (tag : Octet) (start count : Nat)
  /-- DEFINE-OBJECT (R57). -/
  | defineObject (tag : Octet) (object kind urgency timing : Nat) (refs : List ReferenceField)
  /-- REMOVE-OBJECT (R59). -/
  | removeObject (tag : Octet) (object : Nat)
  /-- OBJECT-SERVICE in (R60). -/
  | objectServiceIn (tag : Octet) (object : Nat)
  /-- OBJECT-SERVICE out (R62). -/
  | objectServiceOut (tag : Octet) (object : Nat)
  /-- READ-DEFINITION (R68). -/
  | readDefinition (tag : Octet) (object : Nat)
  /-- READ-OBJECTS (R69). -/
  | readObjects (tag : Octet) (start count : Nat)
  /-- CHECK (R97). -/
  | check (tag : Octet) (items : List CheckItemField)
  /-- CLEAR-LATCH for an object (R91). -/
  | clearLatchObject (tag : Octet) (number : Nat)
  /-- CLEAR-LATCH for a module (R15). -/
  | clearLatchModule (tag : Octet) (number : Nat)
  /-- CLEAR-LATCH for an output (R143). -/
  | clearLatchOutput (tag : Octet) (number : Nat)
  /-- DEFINE-OUTPUT (R119). -/
  | defineOutput (tag : Octet) (output defined pulse readback sense : Nat)
  /-- PRESS (R123). -/
  | press (tag : Octet) (deskTag : Nat) (steps : List Nat) (gap watch : Nat) (items : List CheckItemField)
  /-- PRESS-STATUS (R144). -/
  | pressStatus (tag : Octet) (slot : Nat)
  /-- PRESS-ABORT (R139). -/
  | pressAbort (tag : Octet) (slot : Nat)
  /-- PRESS-INHIBIT on (R122). -/
  | pressInhibitOn (tag : Octet)
  /-- PRESS-INHIBIT off (R122). -/
  | pressInhibitOff (tag : Octet)
  /-- READ-OUTPUTS (R145). -/
  | readOutputs (tag : Octet) (start count : Nat)
  /-- SAVE (R174). -/
  | save (tag : Octet)
  /-- STORE-STATUS (R173). -/
  | storeStatus (tag : Octet)
  /-- RESTART (R178). -/
  | restart (tag : Octet)
  /-- OCTET_RECEIVED (R148). -/
  | octetReceived (octet : Octet)
deriving DecidableEq, Repr

end Sys2Proof
end

