-- ==== Sys2Proof/Decode.lean ====
section
/-! DEFINITION. Requests as frames: the KIND of each request, the layout of each body (R168), reading a request from a
frame and writing it as one. The opcode table gives no row a word, so decodeTableWord answers none. -/

namespace Sys2Proof

open Sys2Proof.Machine

/-- The opcode table gives no row bits: a command is not spelled by a word. -/
def decodeTableWord (_nbits _w : Nat) : Option Instr := none

/-- What a valid frame is to its owner: no request of the part; a request whose body does not fit its layout (R151); a
code that belongs to no row of the table (R170), with whether its owner looks for BUSY first (R176); or a request. -/
inductive Decoded where
  | notARequest
  | badLength
  | badCode (busyFirst : Bool)
  | request (i : Instr)
deriving DecidableEq, Repr

/-! ### KIND values (R168) -/

def kindIdentify : Octet := 0x01#8
def kindReadTime : Octet := 0x02#8
def kindSetMode : Octet := 0x03#8
def kindFlow : Octet := 0x04#8
def kindFetch : Octet := 0x05#8
def kindSync : Octet := 0x06#8
def kindSetScan : Octet := 0x10#8
def kindDefineModules : Octet := 0x11#8
def kindModuleService : Octet := 0x12#8
def kindReadModules : Octet := 0x13#8
def kindDefineProfile : Octet := 0x18#8
def kindAssignProfile : Octet := 0x19#8
def kindDefineFlash : Octet := 0x1A#8
def kindReadContacts : Octet := 0x1B#8
def kindDefineObject : Octet := 0x20#8
def kindRemoveObject : Octet := 0x21#8
def kindObjectService : Octet := 0x22#8
def kindReadDefinition : Octet := 0x23#8
def kindReadObjects : Octet := 0x24#8
def kindCheck : Octet := 0x25#8
def kindClearLatch : Octet := 0x26#8
def kindDefineOutput : Octet := 0x30#8
def kindPress : Octet := 0x31#8
def kindPressStatus : Octet := 0x32#8
def kindPressAbort : Octet := 0x33#8
def kindPressInhibit : Octet := 0x34#8
def kindReadOutputs : Octet := 0x35#8
def kindSave : Octet := 0x40#8
def kindStoreStatus : Octet := 0x41#8
def kindRestart : Octet := 0x42#8

/-- The KIND whose reply would carry the REPORT KIND, and which is therefore discarded (R152). -/
def kindDiscarded : Octet := 0x70#8

/-- The KIND of a REPORT frame (R156). -/
def kindReport : Octet := 0xF0#8

/-- Every KIND that names a request (R168). -/
def requestKinds : List Octet :=
  [kindIdentify, kindReadTime, kindSetMode, kindFlow, kindFetch, kindSync, kindSetScan, kindDefineModules,
   kindModuleService, kindReadModules, kindDefineProfile, kindAssignProfile, kindDefineFlash, kindReadContacts,
   kindDefineObject, kindRemoveObject, kindObjectService, kindReadDefinition, kindReadObjects, kindCheck,
   kindClearLatch, kindDefineOutput, kindPress, kindPressStatus, kindPressAbort, kindPressInhibit, kindReadOutputs,
   kindSave, kindStoreStatus, kindRestart]

/-! ### Variable parts (R167) -/

/-- Four octets for each module entry: slot, size, last contact. -/
def readEntries : List Octet → Option (List ModuleEntryField)
  | [] => some []
  | s :: z :: h :: l :: rest =>
    (readEntries rest).map (fun es => ⟨s.toNat, z.toNat, num2 h l⟩ :: es)
  | _ => none

/-- Four octets for each reference: contact, role, invert flag. -/
def readRefs : List Octet → Option (List ReferenceField)
  | [] => some []
  | h :: l :: r :: v :: rest =>
    (readRefs rest).map (fun es => ⟨num2 h l, r.toNat, v.toNat⟩ :: es)
  | _ => none

/-- Five octets for each check item: object, state code, aspect, flashing requirement. -/
def readItems : List Octet → Option (List CheckItemField)
  | [] => some []
  | h :: l :: c :: a :: f :: rest =>
    (readItems rest).map (fun es => ⟨num2 h l, c.toNat, a.toNat, f.toNat⟩ :: es)
  | _ => none

/-- A list whose length must be the count octet before it (R170, "Variable parts"). -/
def counted {α : Type} (n : Octet) : Option (List α) → Option (List α)
  | some es => if es.length = n.toNat then some es else none
  | none => none

def entryOctets (e : ModuleEntryField) : List Octet := oct e.slot :: oct e.size :: oct2 e.last

def refOctets (r : ReferenceField) : List Octet := oct2 r.contact ++ [oct r.role, oct r.invert]

def itemOctets (c : CheckItemField) : List Octet := oct2 c.object ++ [oct c.code, oct c.aspect, oct c.flashing]

/-! ### Reading a request from a frame -/

/-- The body of MODULE-SERVICE: slot, direction (out 0, in 1). -/
def readModuleService (tag slot direction : Octet) : Decoded :=
  if direction = 0#8 then .request (.moduleServiceOut tag slot.toNat)
  else if direction = 1#8 then .request (.moduleServiceIn tag slot.toNat)
  else .badCode true

/-- The body of OBJECT-SERVICE: object, direction (out 0, in 1). -/
def readObjectService (tag h l direction : Octet) : Decoded :=
  if direction = 0#8 then .request (.objectServiceOut tag (num2 h l))
  else if direction = 1#8 then .request (.objectServiceIn tag (num2 h l))
  else .badCode true

/-- The body of CLEAR-LATCH: target (object 1, module 2, output 3), number. -/
def readClearLatch (tag target h l : Octet) : Decoded :=
  if target = 1#8 then .request (.clearLatchObject tag (num2 h l))
  else if target = 2#8 then .request (.clearLatchModule tag (num2 h l))
  else if target = 3#8 then .request (.clearLatchOutput tag (num2 h l))
  else .badCode false

/-- The body of PRESS-INHIBIT: off 0, on 1. -/
def readPressInhibit (tag field : Octet) : Decoded :=
  if field = 0#8 then .request (.pressInhibitOff tag)
  else if field = 1#8 then .request (.pressInhibitOn tag)
  else .badCode false

/-- The body of PRESS after its step list: gap, watch time, item count, items. -/
def readPressRest (tag th tl : Octet) (steps : List Octet) : List Octet → Decoded
  | gh :: gl :: wh :: wl :: m :: items =>
    match counted m (readItems items) with
    | some cs => .request (.press tag (num2 th tl) (steps.map BitVec.toNat) (num2 gh gl) (num2 wh wl) cs)
    | none => .badLength
  | _ => .badLength

/-- The body of PRESS: desk tag, step count, steps, gap, watch time, item count, items. -/
def readPress (tag : Octet) : List Octet → Decoded
  | th :: tl :: n :: rest =>
    if n.toNat ≤ rest.length then readPressRest tag th tl (rest.take n.toNat) (rest.drop n.toNat) else .badLength
  | _ => .badLength

/-- A request without a body. -/
def readEmpty (i : Instr) : List Octet → Decoded
  | [] => .request i
  | _ => .badLength

def readOne (mk : Nat → Instr) : List Octet → Decoded
  | [a] => .request (mk a.toNat)
  | _ => .badLength

def readTwo (mk : Nat → Nat → Instr) : List Octet → Decoded
  | [a, b] => .request (mk a.toNat b.toNat)
  | _ => .badLength

/-- A body of one two-octet number. -/
def readWide (mk : Nat → Instr) : List Octet → Decoded
  | [h, l] => .request (mk (num2 h l))
  | _ => .badLength

/-- A body of a two-octet start and a count. -/
def readWideCount (mk : Nat → Nat → Instr) : List Octet → Decoded
  | [h, l, c] => .request (mk (num2 h l) c.toNat)
  | _ => .badLength

def readDefineModules (tag : Octet) : List Octet → Decoded
  | n :: rest =>
    match counted n (readEntries rest) with
    | some es => .request (.defineModules tag es)
    | none => .badLength
  | _ => .badLength

def readCheck (tag : Octet) : List Octet → Decoded
  | n :: rest =>
    match counted n (readItems rest) with
    | some cs => .request (.check tag cs)
    | none => .badLength
  | _ => .badLength

def readDefineObject (tag : Octet) : List Octet → Decoded
  | h :: l :: k :: u :: th :: tl :: n :: rest =>
    match counted n (readRefs rest) with
    | some rs => .request (.defineObject tag (num2 h l) k.toNat u.toNat (num2 th tl) rs)
    | none => .badLength
  | _ => .badLength

def readDefineProfile (tag : Octet) : List Octet → Decoded
  | [p, k, h, lh, ll, f] => .request (.defineProfile tag p.toNat k.toNat h.toNat (num2 lh ll) f.toNat)
  | _ => .badLength

def readAssignProfile (tag : Octet) : List Octet → Decoded
  | [fh, fl, lh, ll, p] => .request (.assignProfile tag (num2 fh fl) (num2 lh ll) p.toNat)
  | _ => .badLength

def readDefineFlash (tag : Octet) : List Octet → Decoded
  | [p, ah, al, bh, bl, c, d, f, v] =>
    .request (.defineFlash tag p.toNat (num2 ah al) (num2 bh bl) c.toNat d.toNat f.toNat v.toNat)
  | _ => .badLength

def readDefineOutput (tag : Octet) : List Octet → Decoded
  | [o, d, ph, pl, ch, cl, s] => .request (.defineOutput tag o.toNat d.toNat (num2 ph pl) (num2 ch cl) s.toNat)
  | _ => .badLength

def readModuleServiceBody (tag : Octet) : List Octet → Decoded
  | [s, d] => readModuleService tag s d
  | _ => .badLength

def readObjectServiceBody (tag : Octet) : List Octet → Decoded
  | [h, l, d] => readObjectService tag h l d
  | _ => .badLength

def readClearLatchBody (tag : Octet) : List Octet → Decoded
  | [t, h, l] => readClearLatch tag t h l
  | _ => .badLength

def readPressInhibitBody (tag : Octet) : List Octet → Decoded
  | [v] => readPressInhibit tag v
  | _ => .badLength

/-- What a valid frame is: its KIND names the request and gives the layout its body must fit (R151, R168). -/
def decodeRequest (f : Frame) : Decoded :=
  let t := f.tag
  match f.kind.toNat with
  | 0x01 => readEmpty (.identify t) f.body
  | 0x02 => readEmpty (.readTime t) f.body
  | 0x03 => readOne (.setMode t) f.body
  | 0x04 => readOne (.flow t) f.body
  | 0x05 => readTwo (.fetch t) f.body
  | 0x06 => readEmpty (.sync t) f.body
  | 0x10 => readTwo (.setScan t) f.body
  | 0x11 => readDefineModules t f.body
  | 0x12 => readModuleServiceBody t f.body
  | 0x13 => readTwo (.readModules t) f.body
  | 0x18 => readDefineProfile t f.body
  | 0x19 => readAssignProfile t f.body
  | 0x1A => readDefineFlash t f.body
  | 0x1B => readWideCount (.readContacts t) f.body
  | 0x20 => readDefineObject t f.body
  | 0x21 => readWide (.removeObject t) f.body
  | 0x22 => readObjectServiceBody t f.body
  | 0x23 => readWide (.readDefinition t) f.body
  | 0x24 => readWideCount (.readObjects t) f.body
  | 0x25 => readCheck t f.body
  | 0x26 => readClearLatchBody t f.body
  | 0x30 => readDefineOutput t f.body
  | 0x31 => readPress t f.body
  | 0x32 => readOne (.pressStatus t) f.body
  | 0x33 => readOne (.pressAbort t) f.body
  | 0x34 => readPressInhibitBody t f.body
  | 0x35 => readTwo (.readOutputs t) f.body
  | 0x40 => readEmpty (.save t) f.body
  | 0x41 => readEmpty (.storeStatus t) f.body
  | 0x42 => readEmpty (.restart t) f.body
  | _ => .notARequest

/-! ### Writing a request as a frame -/

/-- The frame a request arrives in (R168), and none for a command that is no request. -/
def encodeRequest : Instr → Option Frame
  | .identify t => some ⟨kindIdentify, t, []⟩
  | .readTime t => some ⟨kindReadTime, t, []⟩
  | .setMode t m => some ⟨kindSetMode, t, [oct m]⟩
  | .flow t h => some ⟨kindFlow, t, [oct h]⟩
  | .fetch t s c => some ⟨kindFetch, t, [oct s, oct c]⟩
  | .sync t => some ⟨kindSync, t, []⟩
  | .setScan t p f => some ⟨kindSetScan, t, [oct p, oct f]⟩
  | .defineModules t es => some ⟨kindDefineModules, t, oct es.length :: es.flatMap entryOctets⟩
  | .moduleServiceOut t s => some ⟨kindModuleService, t, [oct s, oct 0]⟩
  | .moduleServiceIn t s => some ⟨kindModuleService, t, [oct s, oct 1]⟩
  | .readModules t s c => some ⟨kindReadModules, t, [oct s, oct c]⟩
  | .defineProfile t p k h l f => some ⟨kindDefineProfile, t, [oct p, oct k, oct h] ++ oct2 l ++ [oct f]⟩
  | .assignProfile t a b p => some ⟨kindAssignProfile, t, oct2 a ++ oct2 b ++ [oct p]⟩
  | .defineFlash t p a b c d f v =>
    some ⟨kindDefineFlash, t, [oct p] ++ oct2 a ++ oct2 b ++ [oct c, oct d, oct f, oct v]⟩
  | .readContacts t s c => some ⟨kindReadContacts, t, oct2 s ++ [oct c]⟩
  | .defineObject t n k u v rs =>
    some ⟨kindDefineObject, t,
      oct2 n ++ [oct k, oct u] ++ oct2 v ++ oct rs.length :: rs.flatMap refOctets⟩
  | .removeObject t n => some ⟨kindRemoveObject, t, oct2 n⟩
  | .objectServiceIn t n => some ⟨kindObjectService, t, oct2 n ++ [oct 1]⟩
  | .objectServiceOut t n => some ⟨kindObjectService, t, oct2 n ++ [oct 0]⟩
  | .readDefinition t n => some ⟨kindReadDefinition, t, oct2 n⟩
  | .readObjects t s c => some ⟨kindReadObjects, t, oct2 s ++ [oct c]⟩
  | .check t cs => some ⟨kindCheck, t, oct cs.length :: cs.flatMap itemOctets⟩
  | .clearLatchObject t n => some ⟨kindClearLatch, t, oct 1 :: oct2 n⟩
  | .clearLatchModule t n => some ⟨kindClearLatch, t, oct 2 :: oct2 n⟩
  | .clearLatchOutput t n => some ⟨kindClearLatch, t, oct 3 :: oct2 n⟩
  | .defineOutput t o d p r s => some ⟨kindDefineOutput, t, [oct o, oct d] ++ oct2 p ++ oct2 r ++ [oct s]⟩
  | .press t g steps gap watch items =>
    some ⟨kindPress, t,
      oct2 g ++ oct steps.length :: steps.map oct ++ oct2 gap ++ oct2 watch
        ++ oct items.length :: items.flatMap itemOctets⟩
  | .pressStatus t k => some ⟨kindPressStatus, t, [oct k]⟩
  | .pressAbort t k => some ⟨kindPressAbort, t, [oct k]⟩
  | .pressInhibitOn t => some ⟨kindPressInhibit, t, [oct 1]⟩
  | .pressInhibitOff t => some ⟨kindPressInhibit, t, [oct 0]⟩
  | .readOutputs t s c => some ⟨kindReadOutputs, t, [oct s, oct c]⟩
  | .save t => some ⟨kindSave, t, []⟩
  | .storeStatus t => some ⟨kindStoreStatus, t, []⟩
  | .restart t => some ⟨kindRestart, t, []⟩
  | .powerOn _ => none
  | .powerLoss => none
  | .startUpLoadComplete => none
  | .scanStart => none
  | .scanCompletion _ => none
  | .objectTimerExpiry _ => none
  | .pulseEnd _ => none
  | .windowExpiry _ => none
  | .gapExpiry _ => none
  | .watchExpiry _ => none
  | .saveWritingEnd _ => none
  | .saveCompletion => none
  | .frameDiscarded _ => none
  | .requestDropped _ => none
  | .unknownKind _ => none
  | .echoFrame _ => none
  | .frameSent => none
  | .octetReceived _ => none

end Sys2Proof
end

