-- ==== Sys2Proof/Machine/Defaults.lean ====
section
/-! DEFINITION. The values each block takes at power-on, and the configuration that applies where no image does (R177). -/

namespace Sys2Proof.Machine

/-- K = 3, H = 0, L = 1000, no flash profile (R21, R177). -/
def ContactProfile.standard : ContactProfile := ⟨3, 0, 1000, none⟩

/-- Pmin 700, Pmax 1400, Dmin 30, Dmax 70, F = 1, CLOSED-ACTIVE (R37, R177). -/
def FlashProfile.standard : FlashProfile := ⟨700, 1400, 30, 70, 1, .closed⟩

/-- A cleared flash record (R40). -/
def FlashRecord.cleared : FlashRecord := ⟨.steady, none, none, 0, none, none⟩

/-- The starting values of a contact's filter record (R25) under a profile. -/
def Contact.fresh (profile : Nat) : Contact := ⟨none, none, 0, none, false, profile, .cleared⟩

/-- The empty attribute set. -/
def Attrs.empty : Attrs := ⟨false, false, false, false, false, false⟩

/-- A presented state with a code alone. -/
def Presented.plain (c : StateCode) : Presented := ⟨c, none, .empty⟩

/-- An UNDEFINED object record (R51). -/
def ObjectRecord.undefined : ObjectRecord := ⟨.undefined, none, none, none, none, none, none⟩

/-- An output the load leaves undefined (R118). -/
def OutputRecord.undefined : OutputRecord := ⟨false, 100, none, .closed, .idle, none, none, none, none⟩

/-- Every strap open, unit number 0 (assumption 5). -/
def Straps.allOpen : Straps := ⟨false, false, 0, false, false⟩

/-- The defaults of R177. -/
def ImageContents.standard : ImageContents where
  period := 5
  tolerance := 2
  map := []
  profiles := List.replicate Config.contactProfiles .standard
  assignments := List.replicate Config.contacts 0
  flashProfiles := List.replicate Config.flashProfiles .standard
  objects := List.replicate Config.objects none
  outputs := List.replicate Config.outputs none

/-- The module scanner before a load (R19, assumption 7). -/
def Scanner.blank : Scanner := ⟨.unconfigured, 0, 5, 2, [], none, none, none⟩

/-- The contact filter before a load (R21, R23, R25). -/
def Filter.blank : Filter where
  profiles := List.replicate Config.contactProfiles .standard
  contacts := List.replicate Config.contacts (.fresh 0)

/-- The flash profiles before a load (R37). -/
def blankFlashProfiles : List FlashProfile := List.replicate Config.flashProfiles .standard

/-- The object table before a load (R70). -/
def ObjectTable.blank : ObjectTable := ⟨List.replicate Config.objects .undefined, []⟩

/-- The change journal at power-on and RESTART (R116). -/
def Journal.empty : Journal :=
  ⟨[], [], List.replicate Config.moduleSlots none, List.replicate Config.outputs none⟩

/-- The press unit at power-on and RESTART, before the load defines its outputs (R118, R146). -/
def PressUnit.blank : PressUnit where
  outputs := List.replicate Config.outputs .undefined
  slots := List.replicate Config.pressSlots (.free none)
  permits := List.replicate Config.permits none
  queue := []
  inhibit := true

/-- The desk link at power-on and RESTART (R161, R162). -/
def Link.start : Link := ⟨.hunting, [], none, .polled, false, false, false⟩

/-- The configuration store at power-on and RESTART (R173), over what the memory holds; the load judges the image. -/
def Store.start (image : StoredImage) : Store := ⟨.idle, image, false, none⟩

end Sys2Proof.Machine
end

