-- ==== Sys2Proof/Machine/State.lean ====
section
/-! DEFINITION. The state of the CC-716, block by block as 00_scope section 3 lists them, with the queue of waiting
commands; the reasons a command can stop; and the state right after power-on. -/

namespace Sys2Proof.Machine

/-- The state of the part. INVENTORY.md lists every item with its rule. -/
structure State where
  /-- Without power, loading, or operating (R177). -/
  power : Power
  /-- The straps as sampled at power-on (R177). -/
  straps : Straps
  /-- Box time (R1). -/
  time : Stamp
  /-- Chapter 1. -/
  scanner : Scanner
  /-- Chapter 2, with the flash records of chapter 3. -/
  filter : Filter
  /-- The 8 flash profiles (R37). -/
  flash : List FlashProfile
  /-- Chapters 4 and 5. -/
  table : ObjectTable
  /-- Chapter 6. -/
  journal : Journal
  /-- Chapter 7. -/
  press : PressUnit
  /-- Chapter 8. -/
  link : Link
  /-- Chapter 10. -/
  store : Store
  /-- The commands that wait, first in first out. -/
  pending : List Instr
deriving DecidableEq, Repr

/-- Why the machine stops. -/
inductive Fault where
  /-- Raised by the step on an empty queue when box time stands at the last of its 48-bit values: the spec says only that
  this does not happen within the service life of the part (R1). Safe: the model stops and claims nothing beyond it
  (assumption 9). -/
  | boxTimeEnds
deriving DecidableEq, Repr

/-- Why a command has no meaning. -/
inductive Refusal where
  /-- Raised by exec's arm of a command that has no meaning yet. Safe: the model stops. No arm raises it. -/
  | notModelled (mnemonic : String)
deriving DecidableEq, Repr

/-- The part right after power is applied (R177): box time 0, every block at its power-on values, the start-up load
running. The spec gives no strap values and no image for a part as such: assumptions 5 and 6. -/
def State.reset : State where
  power := .loading 0
  straps := .allOpen
  time := 0
  scanner := .blank
  filter := .blank
  flash := blankFlashProfiles
  table := .blank
  journal := .empty
  press := .blank
  link := .start
  store := .start .neverWritten
  pending := []

end Sys2Proof.Machine
end

