-- ==== Sys2Proof/Machine/Ops.lean ====
section
/-! DEFINITION. The named reads and updates of the state, and box time: what is owed and when time may run to it. -/

namespace Sys2Proof.Machine

/-! ### Reads and updates -/

/-- Object record n (R51). -/
def State.object (s : State) (n : Nat) : ObjectRecord := s.table.objects.getD n .undefined

def State.setObjects (s : State) (os : List ObjectRecord) : State := { s with table := { s.table with objects := os } }

def State.setObject (s : State) (n : Nat) (o : ObjectRecord) : State := s.setObjects (s.table.objects.set n o)

def State.setIndex (s : State) (index : List IndexEntry) : State :=
  { s with table := { s.table with index := index } }

/-- The filter and flash record of contact c (2.2, 3.2). -/
def State.contact (s : State) (c : Nat) : Contact := s.filter.contacts.getD c (.fresh 0)

def State.setContacts (s : State) (cs : List Contact) : State :=
  { s with filter := { s.filter with contacts := cs } }

/-- Contact profile p (R21). -/
def State.profile (s : State) (p : Nat) : ContactProfile := s.filter.profiles.getD p .standard

/-- The accepted level of contact c, none for UNKNOWN. -/
def State.accepted (s : State) (c : Nat) : Option Level := (s.contact c).accepted

/-- Output record o (R118). -/
def State.output (s : State) (o : Nat) : OutputRecord := s.press.outputs.getD o .undefined

def State.setOutputs (s : State) (os : List OutputRecord) : State := { s with press := { s.press with outputs := os } }

def State.setOutput (s : State) (o : Nat) (r : OutputRecord) : State := s.setOutputs (s.press.outputs.set o r)

/-- The line of output o is closed exactly while the output is DRIVEN (R120). -/
def State.lineClosed (s : State) (o : Nat) : Bool := (s.output o).state = .driven

/-- Press slot k (R125). -/
def State.slot (s : State) (k : Nat) : Slot := s.press.slots.getD k (.free none)

def State.setSlot (s : State) (k : Nat) (x : Slot) : State :=
  { s with press := { s.press with slots := s.press.slots.set k x } }

def State.setPermit (s : State) (p : Nat) (k : Option Nat) : State :=
  { s with press := { s.press with permits := s.press.permits.set p k } }

def State.setQueue (s : State) (q : List Nat) : State := { s with press := { s.press with queue := q } }

def State.setInhibit (s : State) (on : Bool) : State := { s with press := { s.press with inhibit := on } }

def State.setScanner (s : State) (x : Scanner) : State := { s with scanner := x }

def State.setModules (s : State) (ms : List ModuleRecord) : State :=
  { s with scanner := { s.scanner with modules := ms } }

def State.setJournal (s : State) (j : Journal) : State := { s with journal := j }

def State.setLink (s : State) (l : Link) : State := { s with link := l }

def State.setStore (s : State) (x : Store) : State := { s with store := x }

def State.setTime (s : State) (t : Stamp) : State := { s with time := t }

/-- The part is RUNNING (R17). -/
def State.running (s : State) : Bool := s.scanner.part = .running

/-- A SAVE is running (R173). -/
def State.busy (s : State) : Bool := s.store.state = .busy

/-- The operation of an active slot (R125). -/
def Slot.operation : Slot → Option Operation
  | .free _ => none
  | .waiting op => some op
  | .driving op => some op
  | .releasing op => some op
  | .gap op _ => some op
  | .watching op _ => some op
  | .ended _ _ => none

/-- A slot is FREE (R125). -/
def Slot.isFree : Slot → Bool
  | .free _ => true
  | _ => false

/-- A slot is WATCHING (R125). -/
def Slot.isWatching : Slot → Bool
  | .watching _ _ => true
  | _ => false

/-- The running gap or watch expiry of a slot (R125). -/
def Slot.expiry : Slot → Option Stamp
  | .gap _ e => some e
  | .watching _ e => some e
  | _ => none

/-- The output of the current step (R125); steps are counted from 1. -/
def Operation.current (op : Operation) : Option Nat := op.steps[op.step - 1]?

/-! ### Box time -/

/-- The latest moment a scan in progress may complete (R8). -/
def Scanner.scanBound (x : Scanner) : Option Stamp := x.scan.map (fun c => c.sampleTime + Config.scanTime)

/-- The latest moment a save's present stage may last (R175). -/
def SaveStage.bound : SaveStage → Stamp
  | .writing since => since + Config.writeTime
  | .readBack since => since + Config.compareTime

/-- The latest moment the start-up load may complete (R177). -/
def Power.bound : Power → Option Stamp
  | .loading since => some (since + Config.loadTime)
  | _ => none

/-- The times by which something must have happened: expiries (R67, R128, R129, R133, R136), the next scan start (R6) and
the bounds of R8, R175 and R177. -/
def State.owed (s : State) : List Stamp :=
  s.power.bound.toList ++ s.scanner.scanBound.toList ++ s.scanner.nextScan.toList
    ++ s.table.objects.filterMap (·.timer) ++ s.press.outputs.filterMap (·.pulseEnd)
    ++ s.press.outputs.filterMap (·.windowEnd) ++ s.press.slots.filterMap (·.expiry)
    ++ (s.store.save.map (·.stage.bound)).toList

/-- Box time runs to `d`: at once if it is there, and otherwise only while nothing is owed before `d` (assumption 2). -/
def State.reach (s : State) (d : Stamp) : Option State :=
  if d ≤ s.time then some s
  else if s.owed.all (d ≤ ·) && d ≤ Config.lastBoxTime then some (s.setTime d)
  else none

/-- An event that falls due at `due` happens when box time can reach it; an event that is not running, or that something
else must precede, does not happen (assumptions 2 and 4). -/
def State.atDue (s : State) (due : Option Stamp) (act : State → State) : State :=
  match due with
  | none => s
  | some d =>
    match s.reach d with
    | none => s
    | some s' => act s'

/-- The outcome of every command of the part: a next state. -/
def happens (s : State) : Host.Outcome State Fault Refusal := .next s

end Sys2Proof.Machine
end

