-- ==== Sys2Proof/Machine/Operands.lean ====
section
/-! DEFINITION. The operand forms of requests: the code values of R167 and their readings, the checks of R170, and the
clamps each owner names. -/

namespace Sys2Proof.Machine

/-! ### Codes (R165 to R167) -/

def ResultCode.code : ResultCode → Nat
  | .ok => 0x00
  | .busy => 0x01
  | .badParam => 0x02
  | .badState => 0x03
  | .notDefined => 0x04
  | .noSlot => 0x05
  | .claimed => 0x06
  | .outputFault => 0x07
  | .inhibited => 0x08
  | .stillActive => 0x09
  | .unknownKind => 0x0A

def StateCode.code : StateCode → Nat
  | .unknown => 0x01
  | .contradiction => 0x02
  | .outOfService => 0x03
  | .clear => 0x10
  | .occupied => 0x11
  | .normal => 0x20
  | .reverse => 0x21
  | .moving => 0x22
  | .lost => 0x23
  | .showing => 0x30
  | .dark => 0x31
  | .off => 0x40
  | .on => 0x41
  | .flashing => 0x42
  | .irregular => 0x43
  | .up => 0x50
  | .down => 0x51
  | .fault => 0x52

def stateCodeOf : Nat → Option StateCode
  | 0x01 => some .unknown
  | 0x02 => some .contradiction
  | 0x03 => some .outOfService
  | 0x10 => some .clear
  | 0x11 => some .occupied
  | 0x20 => some .normal
  | 0x21 => some .reverse
  | 0x22 => some .moving
  | 0x23 => some .lost
  | 0x30 => some .showing
  | 0x31 => some .dark
  | 0x40 => some .off
  | 0x41 => some .on
  | 0x42 => some .flashing
  | 0x43 => some .irregular
  | 0x50 => some .up
  | 0x51 => some .down
  | 0x52 => some .fault
  | _ => none

def Kind.code : Kind → Nat
  | .track => 1
  | .points => 2
  | .signal => 3
  | .indication => 4
  | .relay => 5

def kindOf : Nat → Option Kind
  | 1 => some .track
  | 2 => some .points
  | 3 => some .signal
  | 4 => some .indication
  | 5 => some .relay
  | _ => none

def Role.code : Role → Nat
  | .clear => 0x01
  | .back => 0x02
  | .normalDetect => 0x03
  | .reverseDetect => 0x04
  | .lock => 0x05
  | .aspect0 => 0x06
  | .aspect1 => 0x07
  | .aspect2 => 0x08
  | .aspect3 => 0x09
  | .lamp => 0x0A
  | .front => 0x0B

def roleOf : Nat → Option Role
  | 0x01 => some .clear
  | 0x02 => some .back
  | 0x03 => some .normalDetect
  | 0x04 => some .reverseDetect
  | 0x05 => some .lock
  | 0x06 => some .aspect0
  | 0x07 => some .aspect1
  | 0x08 => some .aspect2
  | 0x09 => some .aspect3
  | 0x0A => some .lamp
  | 0x0B => some .front
  | _ => none

def Service.code : Service → Nat
  | .undefined => 0
  | .outOfService => 1
  | .inService => 2

def Urgency.code : Urgency → Nat
  | .normal => 0
  | .allUrgent => 1

def urgencyOf : Nat → Option Urgency
  | 0 => some .normal
  | 1 => some .allUrgent
  | _ => none

/-- A flag field: 0 or 1 (R167). -/
def flagOf : Nat → Option Bool
  | 0 => some false
  | 1 => some true
  | _ => none

def LinkMode.code : LinkMode → Nat
  | .polled => 0
  | .stream => 1
  | .echo => 2

def modeOf : Nat → Option LinkMode
  | 0 => some .polled
  | 1 => some .stream
  | 2 => some .echo
  | _ => none

/-- OPEN 0, CLOSED 1. -/
def Level.code : Level → Nat
  | .opened => 0
  | .closed => 1

/-- Accepted level: OPEN 0, CLOSED 1, UNKNOWN 2. -/
def acceptedCode : Option Level → Nat
  | some l => l.code
  | none => 2

def FlashClass.code : FlashClass → Nat
  | .steady => 0
  | .flashing => 1
  | .irregular => 2

/-- Active level and readback sense: CLOSED 0, OPEN 1 (R167). -/
def senseOf : Nat → Option Level
  | 0 => some .closed
  | 1 => some .opened
  | _ => none

def senseCode : Level → Nat
  | .closed => 0
  | .opened => 1

def flashReqOf : Nat → Option FlashReq
  | 0 => some .steady
  | 1 => some .flashing
  | 2 => some .either
  | _ => none

def PartState.code : PartState → Nat
  | .unconfigured => 0
  | .acquiring => 1
  | .running => 2

def StoreState.code : StoreState → Nat
  | .idle => 0
  | .busy => 1
  | .lastOk => 2
  | .lastFailed => 3

def ModuleState.code : ModuleState → Nat
  | .inService => 1
  | .failed => 2
  | .recovering => 3
  | .outOfService => 4

def FailureCause.code : FailureCause → Nat
  | .noAnswer => 1
  | .wrongType => 2
  | .busCheck => 3

def RecoveryOrigin.code : RecoveryOrigin → Nat
  | .fresh => 0
  | .failed => 1

def OutputState.code : OutputState → Nat
  | .idle => 0
  | .claimed => 1
  | .driven => 2
  | .releasing => 3
  | .faulted => 4

def DriverCause.code : DriverCause → Nat
  | .stuck => 1
  | .noReadback => 2
  | .readbackLost => 3

def OutputCause.code : OutputCause → Nat
  | .fault c => c.code
  | .cleared => 4

def ChangeCause.code : ChangeCause → Nat
  | .contact => 1
  | .timer => 2
  | .module => 3
  | .service => 4
  | .latch => 5

def PressOutcome.code : PressOutcome → Nat
  | .done => 1
  | .timedOut => 2
  | .expectVoid => 3
  | .driverFault => 4
  | .aborted => 5
  | .inhibited => 6

def Slot.code : Slot → Nat
  | .free _ => 0
  | .waiting _ => 1
  | .driving _ => 2
  | .releasing _ => 3
  | .gap _ _ => 4
  | .watching _ _ => 5
  | .ended _ _ => 6

/-! ### Fields that may be absent (R163, R170) -/

/-- A one-octet number, 0xFF meaning none. -/
def optionalOctet (n : Nat) : Option Nat := if n = 0xFF then none else some n

/-- A two-octet number, 0xFFFF meaning none. -/
def optionalTwo (n : Nat) : Option Nat := if n = 0xFFFF then none else some n

/-- An optional number is absent or below the bound. -/
def belowOrAbsent (bound : Nat) : Option Nat → Bool
  | none => true
  | some n => n < bound

/-! ### Clamps -/

/-- The nearest value within lo to hi. -/
def clamp (lo hi n : Nat) : Nat := if n < lo then lo else if hi < n then hi else n

/-- Rounded down to a multiple of the step. -/
def roundDown (step n : Nat) : Nat := n / step * step

/-- The scan period: a value that is not one of the six is taken as 5 (R7). -/
def clampPeriod (p : Nat) : Nat := if p ∈ [2, 4, 5, 8, 10, 20] then p else 5

/-- T: above 15 is taken as 15 (R7). -/
def clampTolerance (t : Nat) : Nat := clamp 0 15 t

/-- K, 1 to 15 (R22). -/
def clampDepth (k : Nat) : Nat := clamp 1 15 k

/-- H: 1 is taken as 2, above 15 as 15 (R22). -/
def clampLimit (h : Nat) : Nat := if h = 1 then 2 else clamp 0 15 h

/-- L, 100 to 10000, rounded down to a multiple of 100 (R22). -/
def clampLeak (l : Nat) : Nat := roundDown 100 (clamp 100 10000 l)

/-- Pmin and Pmax, 100 to 10000 (R38). -/
def clampPeriodLimit (p : Nat) : Nat := clamp 100 10000 p

/-- Dmin and Dmax, 1 to 99 (R38). -/
def clampDuty (d : Nat) : Nat := clamp 1 99 d

/-- F, 1 to 4 (R38). -/
def clampConfirm (f : Nat) : Nat := clamp 1 4 f

/-- The timing value of a kind (R54). -/
def clampTiming (k : Kind) (t : Nat) : Nat :=
  match k with
  | .track => roundDown 10 (clamp 0 10000 t)
  | .points => roundDown 10 (clamp 1000 30000 t)
  | .signal => roundDown 10 (clamp 0 5000 t)
  | .indication => 0
  | .relay => roundDown 10 (clamp 10 2000 t)

/-- Pulse length, 100 to 2000, rounded down to a multiple of 10 (R119). -/
def clampPulse (p : Nat) : Nat := roundDown 10 (clamp 100 2000 p)

/-- Gap, 0 to 2000 (R123). -/
def clampGap (g : Nat) : Nat := clamp 0 2000 g

/-- Watch time, 0 to 60000 (R123). -/
def clampWatch (w : Nat) : Nat := clamp 0 60000 w

/-- A read count: 0 is taken as 1, above the limit as the limit (R18, R36, R69, R145). -/
def clampCount (limit n : Nat) : Nat := clamp 1 limit n

/-- How many entries a read returns: the count taken, the end of the range, the capacity of a reply (R171). -/
def readCount (limit range capacity start n : Nat) : Nat :=
  min (min (clampCount limit n) (range - start)) capacity

/-! ### Composite operands -/

/-- A check item, if every field is one R97 accepts. -/
def readCheckItem (c : CheckItemField) : Option CheckItem :=
  match stateCodeOf c.code, flashReqOf c.flashing with
  | some code, some req =>
    if c.object < Config.objects ∧ belowOrAbsent 4 (optionalOctet c.aspect) then
      some ⟨c.object, code, optionalOctet c.aspect, req⟩
    else none
  | _, _ => none

/-- A list of check items, if each is one R97 accepts. -/
def readCheckItems : List CheckItemField → Option (List CheckItem)
  | [] => some []
  | c :: cs =>
    match readCheckItem c, readCheckItems cs with
    | some i, some is => some (i :: is)
    | _, _ => none

/-- A reference, if its role, invert flag and contact number are in range (R57). -/
def readReference (r : ReferenceField) : Option Reference :=
  match roleOf r.role, flagOf r.invert with
  | some role, some inverted => if r.contact < Config.contacts then some ⟨r.contact, role, inverted⟩ else none
  | _, _ => none

/-- A list of references, if each is in range. -/
def readReferences : List ReferenceField → Option (List Reference)
  | [] => some []
  | r :: rs =>
    match readReference r, readReferences rs with
    | some x, some xs => some (x :: xs)
    | _, _ => none

/-- The required roles of a kind (R52). -/
def Kind.required : Kind → List Role
  | .track => [.clear]
  | .points => [.normalDetect, .reverseDetect]
  | .signal => [.aspect0]
  | .indication => [.lamp]
  | .relay => [.front, .back]

/-- The optional roles of a kind (R52). -/
def Kind.optionalRoles : Kind → List Role
  | .track => [.back]
  | .points => [.lock]
  | .signal => [.aspect1, .aspect2, .aspect3]
  | .indication => []
  | .relay => []

/-- The references fit the kind (R57): 1 to 6 of them, roles of the kind, no role and no contact twice, every required
role there. -/
def refsFit (k : Kind) (rs : List Reference) : Bool :=
  rs.length ≠ 0 && rs.length ≤ 6 && rs.all (fun r => r.role ∈ k.required ++ k.optionalRoles)
    && (rs.map (·.role)).Nodup && (rs.map (·.contact)).Nodup && k.required.all (fun x => x ∈ rs.map (·.role))

/-- The definition DEFINE-OBJECT carries, if it has none of the faults of R57's fourth check; the timing value is
clamped (R54). -/
def readDefinition (kind urgency timing : Nat) (refs : List ReferenceField) : Option Definition :=
  match kindOf kind, urgencyOf urgency, readReferences refs with
  | some k, some u, some rs => if refsFit k rs then some ⟨k, rs, clampTiming k timing, u⟩ else none
  | _, _, _ => none

/-- One module entry is free of the faults of R4 that it can have alone. -/
def entryInRange (e : ModuleEntryField) : Bool :=
  e.slot < Config.moduleSlots && e.size ∈ [16, 32, 64] && e.last < Config.contacts

/-- Slots and last contacts ascend, and no range covers more than 64 contacts; `first` is the first contact of the
entry's range, `above` the slot it must lie above (R4). -/
def entriesAscend : Option Nat → Nat → List ModuleEntryField → Bool
  | _, _, [] => true
  | above, first, e :: es =>
    (match above with
      | none => true
      | some a => a < e.slot)
      && first ≤ e.last && e.last + 1 - first ≤ 64 && entriesAscend (some e.slot) (e.last + 1) es

/-- The map DEFINE-MODULES carries, if it has none of the faults of R4's third check. -/
def readMap (es : List ModuleEntryField) : Option (List ModuleEntry) :=
  if es.length ≤ Config.moduleSlots && es.all entryInRange && entriesAscend none 0 es then
    some (es.map (fun e => ⟨e.slot, e.size, e.last⟩))
  else none

/-! ### Replies -/

/-- A refusal: the result code, and nothing after the summary (R165). -/
def refusal (r : ResultCode) : Reply := ⟨r, []⟩

/-- OK with these octets after the summary. -/
def okWith (fields : List Octet) : Reply := ⟨.ok, fields⟩

end Sys2Proof.Machine
end

