-- ==== Sys2Proof/Machine/Journal.lean ====
section
/-! DEFINITION. The change journal (chapter 6): lanes, what is pending, admission, refill, marking, and the 13-octet
record (R166). -/

namespace Sys2Proof.Machine

/-! ### Lanes -/

/-- The records of a lane. -/
def Journal.lane (j : Journal) : Lane → List Record
  | .urgent => j.urgent
  | .routine => j.routine

/-- How many records a lane can hold (R98). -/
def Lane.places : Lane → Nat
  | .urgent => Config.urgentPlaces
  | .routine => Config.routinePlaces

def Journal.setLane (j : Journal) (l : Lane) (rs : List Record) : Journal :=
  match l with
  | .urgent => { j with urgent := rs }
  | .routine => { j with routine := rs }

/-- The records waiting in a lane. -/
def State.lane (s : State) (l : Lane) : List Record := s.journal.lane l

/-- A record enters its lane at the tail (R98). -/
def State.append (s : State) (l : Lane) (r : Record) : State := s.setJournal (s.journal.setLane l (s.lane l ++ [r]))

/-- The oldest n records leave the lane (R98). -/
def State.dropRecords (s : State) (l : Lane) (n : Nat) : State := s.setJournal (s.journal.setLane l ((s.lane l).drop n))

/-- The lane of a press outcome (R99). -/
def PressOutcome.lane : PressOutcome → Lane
  | .done => .routine
  | .aborted => .routine
  | .timedOut => .urgent
  | .inhibited => .urgent
  | .driverFault => .urgent
  | .expectVoid => .urgent

/-- The slot is ENDED with an outcome of this lane (R100). -/
def Slot.endedFor (l : Lane) : Slot → Bool
  | .ended _ rep => rep.outcome.lane = l
  | _ => false

/-- The object is in the dirty set with this lane mark (R100). -/
def ObjectRecord.markedFor (l : Lane) (o : ObjectRecord) : Bool := o.dirty = some l

/-- Something is pending for the lane (R100). -/
def State.pendingFor (s : State) : Lane → Bool
  | .urgent =>
    s.journal.modulePending.any (·.isSome) || s.journal.outputPending.any (·.isSome)
      || s.press.slots.any (·.endedFor .urgent) || s.table.objects.any (·.markedFor .urgent)
  | .routine => s.press.slots.any (·.endedFor .routine) || s.table.objects.any (·.markedFor .routine)

/-- The lane has a free place (R98). -/
def State.hasPlace (s : State) (l : Lane) : Bool := (s.lane l).length < l.places

/-- The admission test (R101). -/
def State.admits (s : State) (l : Lane) : Bool := s.hasPlace l && !s.pendingFor l

/-! ### Refill (R106) -/

/-- Something pending that refill may append. -/
inductive PendingItem where
  | module (slot : Nat)
  | output (output : Nat)
  | pressEnd (slot : Nat)
  | object (object : Nat)
deriving DecidableEq, Repr

/-- The first dirty object a refill may append: none while the part is not RUNNING (R106). -/
def State.firstMarked (s : State) (l : Lane) : Option PendingItem :=
  if s.running then (s.table.objects.findIdx? (·.markedFor l)).map .object else none

/-- The first pending item in refill order (R106). -/
def State.firstPending (s : State) : Lane → Option PendingItem
  | .urgent =>
    match s.journal.modulePending.findIdx? (·.isSome) with
    | some i => some (.module i)
    | none =>
      match s.journal.outputPending.findIdx? (·.isSome) with
      | some o => some (.output o)
      | none =>
        match s.press.slots.findIdx? (·.endedFor .urgent) with
        | some k => some (.pressEnd k)
        | none => s.firstMarked .urgent
  | .routine =>
    match s.press.slots.findIdx? (·.endedFor .routine) with
    | some k => some (.pressEnd k)
    | none => s.firstMarked .routine

def State.setModulePending (s : State) (slot : Nat) (i : Option ModuleItem) : State :=
  s.setJournal { s.journal with modulePending := s.journal.modulePending.set slot i }

def State.setOutputPending (s : State) (o : Nat) (i : Option OutputItem) : State :=
  s.setJournal { s.journal with outputPending := s.journal.outputPending.set o i }

/-- The object's dirty flag and lane mark (R51). -/
def State.setDirty (s : State) (n : Nat) (m : Option Lane) : State :=
  s.setObject n { s.object n with dirty := m }

/-- The REFRESH record of an object as it stands (R107). -/
def State.refreshRecord (s : State) (n : Nat) : Record :=
  .refresh n ((s.object n).presented.getD (.plain .outOfService)) (s.object n).lastStamp

/-- A pending item becomes a record, and is pending no longer (R103, R104, R105, R107). -/
def State.appendPending (s : State) (l : Lane) : PendingItem → State
  | .module slot =>
    match s.journal.modulePending.getD slot none with
    | some i => (s.append l (.module i)).setModulePending slot none
    | none => s
  | .output o =>
    match s.journal.outputPending.getD o none with
    | some i => (s.append l (.output i)).setOutputPending o none
    | none => s
  | .pressEnd k =>
    match s.slot k with
    | .ended tag rep =>
      (s.append l (.pressEnd k tag rep.outcome rep.failing rep.stamp)).setSlot k (.free (some rep))
    | _ => s
  | .object n => (s.append l (s.refreshRecord n)).setDirty n none

/-- Up to n pending items are appended, in refill order (R106). -/
def State.refillUpTo (l : Lane) : Nat → State → State
  | 0, s => s
  | n + 1, s =>
    match s.firstPending l with
    | none => s
    | some p => State.refillUpTo l n (s.appendPending l p)

/-- A refill of a lane: until it is full or nothing that may be appended is pending (R106). -/
def State.refill (s : State) (l : Lane) : State := State.refillUpTo l (l.places - (s.lane l).length) s

def State.refillBoth (s : State) : State := (s.refill .urgent).refill .routine

/-! ### Hand-over of items (R100 to R105) -/

/-- A MODULE item (R101, R103). -/
def State.handModule (s : State) (i : ModuleItem) : State :=
  if s.admits .urgent then s.append .urgent (.module i)
  else (s.setModulePending i.slot (some i)).refill .urgent

/-- An OUTPUT item (R101, R104). -/
def State.handOutput (s : State) (i : OutputItem) : State :=
  if s.admits .urgent then s.append .urgent (.output i)
  else (s.setOutputPending i.output (some i)).refill .urgent

/-- The end of the operation of slot k is handed over: the record is appended and the slot becomes FREE with its last-end
report, or the slot stays ENDED (R105, R138 steps 6 and 7). The test is made before the slot itself is ENDED, so it does
not count the item against itself. -/
def State.handPressEnd (s : State) (k tag : Nat) (rep : EndReport) : State :=
  if s.admits rep.outcome.lane then
    (s.append rep.outcome.lane (.pressEnd k tag rep.outcome rep.failing rep.stamp)).setSlot k (.free (some rep))
  else (s.setSlot k (.ended tag rep)).refill rep.outcome.lane

/-- An object change (R101, R102): while the part is not RUNNING it is not taken. -/
def State.handChange (s : State) (c : Change) : State :=
  if s.running then
    match (s.object c.object).dirty with
    | none =>
      if s.admits c.lane then s.append c.lane (.change c.object c.presented c.cause c.stamp)
      else (s.setDirty c.object (some c.lane)).refill c.lane
    | some .routine =>
      match c.lane with
      | .urgent => (s.setDirty c.object (some .urgent)).refill .urgent
      | .routine => s
    | some .urgent => s
  else s

/-! ### Marking every object (R109, R110) -/

/-- The alarm states of an object (R55). IRREGULAR as a state code belongs to an INDICATION alone. -/
def StateCode.isAlarm : StateCode → Bool
  | .lost => true
  | .contradiction => true
  | .dark => true
  | .fault => true
  | .irregular => true
  | .unknown => true
  | _ => false

/-- Step 2 of R109 for one record: an IN-SERVICE object gets a mark by its state code, or keeps or upgrades its own. -/
def ObjectRecord.marked (o : ObjectRecord) : ObjectRecord :=
  if o.service = .inService then
    if (o.presented.getD (.plain .unknown)).code.isAlarm then { o with dirty := some .urgent }
    else
      match o.dirty with
      | none => { o with dirty := some .routine }
      | some _ => o
  else o

/-- Every IN-SERVICE object is marked dirty and both lanes are refilled (R109 steps 2 and 3, R110). -/
def State.markAll (s : State) : State := (s.setObjects (s.table.objects.map (·.marked))).refillBoth

/-- How many objects are IN-SERVICE (R110). -/
def State.inServiceCount (s : State) : Nat := s.table.objects.countP (·.service = .inService)

/-- The pending flag of the status summary (R115). -/
def State.pendingFlag (s : State) : Bool := s.pendingFor .urgent || s.pendingFor .routine

/-! ### The record on the line (R166) -/

/-- The attribute octet (R166). -/
def Attrs.octet (a : Attrs) : Octet :=
  oct (bit a.flashing + 2 * bit a.irregular + 4 * bit a.chatter + 8 * bit a.locked + 16 * bit a.free
    + 32 * bit a.latched)

/-- State, aspect and attribute octets of a presented state (R166). -/
def Presented.octets (p : Presented) : List Octet := [oct p.code.code, octNum p.aspect, p.attrs.octet]

/-- State, aspect and attribute octets where the presented state is absent (R163, assumption 21). -/
def presentedOctets : Option Presented → List Octet
  | some p => p.octets
  | none => [oct 0, octNum none, oct 0]

/-- A failure cause, 0x00 for none (R163, R166). -/
def causeCode : Option FailureCause → Nat
  | some c => c.code
  | none => 0

/-- The 13 octets of a record (R166). -/
def Record.octets : Record → List Octet
  | .change n p c t => oct 0x01 :: oct2 n ++ p.octets ++ [oct c.code] ++ oct6 t
  | .refresh n p t => oct 0x02 :: oct2 n ++ p.octets ++ [oct 0] ++ octStamp t
  | .module i =>
    oct 0x03 :: oct2 i.slot ++ [oct i.state.code, octNum none, oct 0, oct (causeCode i.cause)] ++ oct6 i.stamp
  | .output i => oct 0x04 :: oct2 i.output ++ [oct i.state.code, octNum none, oct 0, oct i.cause.code] ++ oct6 i.stamp
  | .pressEnd k tag o f t => oct 0x05 :: oct2 tag ++ [oct k, octNum f, oct 0, oct o.code] ++ oct6 t

end Sys2Proof.Machine
end

