-- ==== Sys2Proof/Machine/Flags.lean ====
section
/-! DEFINITION. The status summary (R157, R165): the values and flags read from their owners. -/

namespace Sys2Proof.Machine

/-- How many modules are FAILED (R157). -/
def State.failedModules (s : State) : Nat := s.scanner.modules.countP (·.state = .failed)

/-- How many outputs are FAULTED (R142, R157). -/
def State.faultedOutputs (s : State) : Nat := s.press.outputs.countP (·.state = .faulted)

/-- How many press slots are not FREE (R125, R157). -/
def State.slotsTaken (s : State) : Nat := s.press.slots.countP (!·.isFree)

/-- Summary octet 0: part state, link mode, routine hold, inhibit (R165). -/
def State.summaryModes (s : State) : Nat :=
  s.scanner.part.code + 4 * s.link.mode.code + 16 * bit s.link.hold + 32 * bit s.press.inhibit

/-- Summary octet 3: pending flag, request-dropped flag, store state (R165). -/
def State.summaryFlags (s : State) : Nat := bit s.pendingFlag + 2 * bit s.link.dropped + 4 * s.store.state.code

/-- The status summary (R157) in its eight octets (R165). -/
def State.summary (s : State) : List Octet :=
  [oct s.summaryModes, oct s.journal.urgent.length, oct s.journal.routine.length, oct s.summaryFlags,
   oct s.failedModules, oct s.faultedOutputs, oct s.slotsTaken, oct s.scanner.period]

/-- Forming a summary clears a set request-dropped flag (R154). -/
def State.clearDropped (s : State) : State := s.setLink { s.link with dropped := false }

end Sys2Proof.Machine
end

