-- ==== Sys2Proof/Machine/Press.lean ====
section
/-! DEFINITION. The press unit's shared operations (chapter 7): the check predicate, permits, releases, watching, and the
end of an operation. -/

namespace Sys2Proof.Machine

/-! ### The check predicate -/

/-- The flashing requirement agrees with the FLASHING attribute (R96). -/
def FlashReq.agrees (r : FlashReq) (flashing : Bool) : Bool :=
  match r with
  | .steady => !flashing
  | .flashing => flashing
  | .either => true

/-- A check item matches a presented state (R96). -/
def CheckItem.matchesState (i : CheckItem) (p : Presented) : Bool :=
  p.code = i.code && (i.aspect.isNone || p.aspect = i.aspect) && i.flashing.agrees p.attrs.flashing

/-- A check item matches now: its object is IN-SERVICE and presents what it names (R96). -/
def State.itemMatches (s : State) (i : CheckItem) : Bool :=
  match (s.object i.object).presented with
  | some p => (s.object i.object).service = .inService && i.matchesState p
  | none => false

/-! ### Permits (R126, R127) -/

/-- The step of slot k is granted permit p: its output closes its line for its pulse length (R128). -/
def State.grant (s : State) (p k : Nat) : State :=
  match (s.slot k).operation with
  | none => s
  | some op =>
    match op.current with
    | none => s
    | some o =>
      ((s.setOutput o { s.output o with state := .driven, pulseEnd := some (s.time + (s.output o).pulse) }).setSlot k
        (.driving op)).setPermit p (some k)

/-- The current step of slot k is due: it is granted a permit at once if one is free and the queue is empty, and joins
the queue otherwise (R126). -/
def State.stepDue (s : State) (k : Nat) (op : Operation) : State :=
  match s.press.queue, s.press.permits.findIdx? (· = none) with
  | [], some p => (s.setSlot k (.waiting op)).grant p k
  | q, _ => (s.setSlot k (.waiting op)).setQueue (q ++ [k])

/-- The permit held by slot k is released: it goes to the head of the queue, or becomes free (R127). -/
def State.releasePermit (s : State) (k : Nat) : State :=
  match s.press.permits.findIdx? (· = some k) with
  | none => s
  | some p =>
    match s.press.queue with
    | [] => s.setPermit p none
    | h :: t => ((s.setPermit p none).setQueue t).grant p h

/-! ### The end of an operation (R138, R140) -/

/-- An output returns to IDLE with no owner. -/
def OutputRecord.toIdle (r : OutputRecord) : OutputRecord :=
  { r with state := .idle, owner := none, pulseEnd := none, windowEnd := none }

/-- The outputs slot k owns in CLAIMED return to IDLE (R134, R138 step 1). -/
def State.unclaim (s : State) (k : Nat) : State :=
  s.setOutputs (s.press.outputs.map (fun r => if r.owner = some k ∧ r.state = .claimed then r.toIdle else r))

/-- An output whose line is opened by the end of its operation: its permit goes, and it is IDLE, or RELEASING without an
owner where its readback is at its driven sense or UNKNOWN (R138 step 2, R140). -/
def State.cutOff (s : State) (k o : Nat) (stamp : Stamp) : State :=
  let r := s.output o
  let t := (s.setOutput o r.toIdle).releasePermit k
  match r.readback with
  | none => t
  | some c =>
    match t.accepted c with
    | some l =>
      if l = r.sense then
        t.setOutput o { r.toIdle with state := .releasing, windowEnd := some (stamp + Config.releaseWindow) }
      else t
    | none => t.setOutput o { r.toIdle with state := .releasing, windowEnd := some (stamp + Config.releaseWindow) }

/-- The output slot k holds DRIVEN, if any, is cut off (R138 step 2). -/
def State.cutOffDriven (s : State) (k : Nat) (stamp : Stamp) : State :=
  match s.press.outputs.findIdx? (fun r => r.owner = some k ∧ r.state = .driven) with
  | none => s
  | some o => s.cutOff k o stamp

/-- The outputs slot k owns in RELEASING lose their owner (R138 step 3). -/
def State.disown (s : State) (k : Nat) : State :=
  s.setOutputs
    (s.press.outputs.map (fun r => if r.owner = some k ∧ r.state = .releasing then { r with owner := none } else r))

/-- Slot k leaves the permit queue wherever it stands (R127, R138 step 4). -/
def State.leaveQueue (s : State) (k : Nat) : State := s.setQueue (s.press.queue.filter (· ≠ k))

/-- The operation of slot k ends (R138). Its gap or watch expiry goes with its slot state. -/
def State.endOperation (s : State) (k : Nat) (rep : EndReport) : State :=
  match (s.slot k).operation with
  | none => s
  | some op =>
    ((((s.unclaim k).cutOffDriven k rep.stamp).disown k).leaveQueue k).handPressEnd k op.tag rep

/-- An end without a failing output (R138). -/
def endReport (outcome : PressOutcome) (stamp : Stamp) : EndReport := ⟨outcome, none, none, stamp⟩

/-- A DRIVER-FAULT end (R138). -/
def faultReport (output : Nat) (cause : DriverCause) (stamp : Stamp) : EndReport :=
  ⟨.driverFault, some output, some cause, stamp⟩

/-! ### Watching (R134, R135) -/

/-- Slot k enters WATCHING at the completion of its last release (R134). -/
def State.enterWatching (s : State) (k : Nat) (op : Operation) : State :=
  let s' := s.unclaim k
  if op.expects.any (fun i => (s'.object i.object).service ≠ .inService) then
    s'.endOperation k (endReport .expectVoid s'.time)
  else if op.expects.isEmpty then s'.endOperation k (endReport .done s'.time)
  else
    let w := s'.setSlot k (.watching op (s'.time + op.watch))
    if op.expects.all w.itemMatches then w.endOperation k (endReport .done w.time) else w

/-- The release of an owned output is complete: the slot goes on from its step (R132). -/
def State.releaseDone (s : State) (k : Nat) : State :=
  match (s.slot k).operation with
  | none => s
  | some op =>
    if op.steps.length ≤ op.step then s.enterWatching k op
    else if op.gap = 0 then s.stepDue k { op with step := op.step + 1 }
    else s.setSlot k (.gap op (s.time + op.gap))

/-- The latest of a list of stamps and a first one. -/
def latest (first : Stamp) (ts : List Stamp) : Stamp := ts.foldl max first

/-- A hand-over of changes reaches slot k: if it is WATCHING and some change is of an object it expects, a change to
OUT-OF-SERVICE voids it (R137), and otherwise it ends DONE if every expectation matches (R135). The moment it began to
watch is its expiry less its watch time (R134). -/
def State.judgeWatch (changes : List Change) (s : State) (k : Nat) : State :=
  match s.slot k with
  | .watching op e =>
    let hits := changes.filter (fun c => op.expects.any (·.object = c.object))
    if hits.isEmpty then s
    else if hits.any (·.presented.code = .outOfService) then s.endOperation k (endReport .expectVoid s.time)
    else if op.expects.all s.itemMatches then
      s.endOperation k (endReport .done (latest (e - op.watch) (hits.map (·.stamp))))
    else s
  | _ => s

/-- The press unit takes the changes of one hand-over (R95, R135, R137). Slots go in ascending order: R137 gives this order
for the ends EXPECT-VOID, and for several ends DONE at one hand-over it is the model's choice (assumption 30). -/
def State.handToPress (s : State) (changes : List Change) : State :=
  (List.range Config.pressSlots).foldl (State.judgeWatch changes) s

/-! ### Releases (R130, R131, R141) -/

/-- The release of output o completes: an owned output returns to CLAIMED and its slot goes on (R132); one without an
owner becomes IDLE (R141). -/
def State.completeRelease (s : State) (o : Nat) : State :=
  let r := s.output o
  match r.owner with
  | some k => (s.setOutput o { r with state := .claimed, pulseEnd := none, windowEnd := none }).releaseDone k
  | none => s.setOutput o r.toIdle

/-- A batch reaches output o: if it is RELEASING and an entry brings its readback to its released sense, the release
completes (R130). -/
def State.judgeRelease (entries : List BatchEntry) (s : State) (o : Nat) : State :=
  let r := s.output o
  if r.state = .releasing ∧ r.windowEnd.isSome then
    match r.readback with
    | none => s
    | some c =>
      if entries.any (fun e => e.contact = c && e.accepted.isSome && e.accepted ≠ some r.sense) then
        s.completeRelease o
      else s
  else s

/-- The press unit takes the entries of a batch for its readbacks, outputs in ascending order (R130, assumption 15). -/
def State.judgeReadbacks (s : State) (entries : List BatchEntry) : State :=
  (List.range Config.outputs).foldl (State.judgeRelease entries) s

/-- An output becomes FAULTED and hands over its OUTPUT item (R129, R131, R142). -/
def State.faultOutput (s : State) (o : Nat) (cause : DriverCause) (stamp : Stamp) : State :=
  (s.setOutput o { (s.output o).toIdle with state := .faulted, fault := some cause }).handOutput
    ⟨o, .faulted, .fault cause, stamp⟩

/-- The operation of the output's owner, if it has one, ends DRIVER-FAULT (R129, R131). -/
def State.endOwner (s : State) (owner : Option Nat) (rep : EndReport) : State :=
  match owner with
  | some k => s.endOperation k rep
  | none => s

/-- The pulse of output o ends at `d`: the line opens and the permit goes (R128), then the readback is judged (R129). -/
def State.endPulse (s : State) (o : Nat) (d : Stamp) : State :=
  let r := s.output o
  match r.owner with
  | none => s
  | some k =>
    let t := (s.setOutput o { r with state := .claimed, pulseEnd := none }).releasePermit k
    match r.readback with
    | none => t.completeRelease o
    | some c =>
      match t.accepted c with
      | none =>
        (t.setOutput o (t.output o).toIdle).endOperation k (faultReport o .readbackLost d)
      | some l =>
        if l = r.sense then
          match (t.slot k).operation with
          | some op =>
            (t.setOutput o
              { t.output o with state := .releasing, windowEnd := some (d + Config.releaseWindow) }).setSlot k
              (.releasing op)
          | none => t
        else (t.faultOutput o .noReadback d).endOperation k (faultReport o .noReadback d)

/-- The release window of output o ends at `d` (R131). A readback found at its released sense completes the release: no
run reaches that (assumption 19). -/
def State.endWindow (s : State) (o : Nat) (d : Stamp) : State :=
  let r := s.output o
  match r.readback with
  | none => s.completeRelease o
  | some c =>
    match s.accepted c with
    | none => (s.faultOutput o .readbackLost d).endOwner r.owner (faultReport o .readbackLost d)
    | some l =>
      if l = r.sense then (s.faultOutput o .stuck d).endOwner r.owner (faultReport o .stuck d)
      else s.completeRelease o

end Sys2Proof.Machine
end

