-- ==== Sys2Proof/Machine/Filter.lean ====
section
/-! DEFINITION. The contact filter and the flash classifier (chapters 2 and 3): views, one contact at one scan completion,
profile changes, and the batch. -/

namespace Sys2Proof.Machine

/-! ### Views -/

/-- The active level of a reference (R53). -/
def activeLevel (inverted : Bool) : Level := if inverted then .opened else .closed

/-- The level view of a contact for a reference (R33). -/
def levelView (c : Contact) (inverted : Bool) : LevelView :=
  match c.accepted with
  | none => .unknown
  | some l => if c.chattering then .chatter else if l = activeLevel inverted then .active else .inactive

/-- The lamp view of a contact for a reference (R34). -/
def lampView (c : Contact) (inverted : Bool) : LampView :=
  match c.accepted with
  | none => .unknown
  | some l =>
    match c.flash.cls with
    | .flashing => .flashing
    | .irregular => .irregular
    | .steady => if c.chattering then .irregular else if l = activeLevel inverted then .lit else .dark

/-! ### One contact at one completion -/

/-- The later of two stamps that may be absent. -/
def later (a b : Option Stamp) : Option Stamp :=
  match a, b with
  | some x, some y => some (max x y)
  | some x, none => some x
  | none, b => b

/-- A contact loses its level: filter and flash records are cleared, the profile is kept (R29, R40). -/
def Contact.loseLevel (c : Contact) : Contact := .fresh c.profile

/-- The leak check at sample time `s` (R31), with the stamp of an exit from CHATTERING. -/
def leakCheck (p : ContactProfile) (s : Stamp) (c : Contact) : Contact × Option Stamp :=
  match c.leakRef with
  | none => (c, none)
  | some r =>
    if c.chatterCount ≠ 0 ∧ r + p.leak ≤ s then
      if c.chatterCount = 1 then
        ({ c with chatterCount := 0, leakRef := none, chattering := false }, if c.chattering then some s else none)
      else ({ c with chatterCount := c.chatterCount - 1, leakRef := some (r + p.leak) }, none)
    else (c, none)

/-- Chatter is checked under a profile with H other than 0 and no flash profile (R21). -/
def ContactProfile.checksChatter (p : ContactProfile) : Bool := p.limit ≠ 0 && p.flash.isNone

/-- An accepted edge with stamp `t` is counted (R30). -/
def countEdge (p : ContactProfile) (t : Stamp) (c : Contact) : Contact :=
  if p.checksChatter then
    { c with
      chatterCount := min (c.chatterCount + 1) 15
      leakRef := if c.chatterCount = 0 then some t else c.leakRef
      chattering := c.chattering || decide (p.limit ≤ min (c.chatterCount + 1) 15) }
  else c

/-- What a sample made of a contact: the stamp of an accepted edge or acquisition, and whether it is an edge. -/
inductive SampleEvent where
  | nothing
  | acquired (stamp : Stamp)
  | edge (stamp : Stamp)
deriving DecidableEq, Repr

/-- The candidate after a sample that differs from the accepted level (R27 step 2). -/
def nextCandidate (v : Level) (s : Stamp) : Option Candidate → Candidate
  | some k => if k.level = v then { k with count := k.count + 1 } else ⟨v, 1, s⟩
  | none => ⟨v, 1, s⟩

/-- The sample `v` with sample time `s` (R27, R28), with the chatter counting of an edge (R30). -/
def takeSample (p : ContactProfile) (v : Level) (s : Stamp) (c : Contact) : Contact × SampleEvent :=
  if c.accepted = some v then ({ c with candidate := none }, .nothing)
  else
    let k := nextCandidate v s c.candidate
    if p.depth ≤ k.count then
      let c' := { c with accepted := some v, candidate := none }
      if c.accepted.isSome then (countEdge p k.stamp c', .edge k.stamp) else (c', .acquired k.stamp)
    else ({ c with candidate := some k }, .nothing)

/-- The stamp a sample event gives the batch entry (R35). -/
def SampleEvent.stamp : SampleEvent → Option Stamp
  | .nothing => none
  | .acquired t => some t
  | .edge t => some t

/-- The silence check at sample time `s` (R43), with the stamp of a class change. -/
def silenceCheck (f : FlashProfile) (s : Stamp) (r : FlashRecord) : FlashRecord × Option Stamp :=
  match later r.leading r.trailing with
  | none => (r, none)
  | some t =>
    if t + f.pMax < s then
      ({ r with cls := .steady, leading := none, trailing := none, conforming := 0 },
        if r.cls = .steady then none else some s)
    else (r, none)

/-- A cycle conforms when period and duty lie in their windows, both ends included (3.5). -/
def FlashProfile.conforms (f : FlashProfile) (period duty : Nat) : Bool :=
  f.pMin ≤ period && period ≤ f.pMax && f.dMin ≤ duty && duty ≤ f.dMax

/-- The duty of a cycle in whole percent, rounded down (R46). -/
def dutyOf (onTime period : Nat) : Nat := 100 * onTime / period

/-- A measured cycle is judged (R47), with the stamp of a class change; `t` is the leading edge that completes it. -/
def judgeCycle (f : FlashProfile) (t : Stamp) (period duty : Nat) (r : FlashRecord) : FlashRecord × Option Stamp :=
  if f.conforms period duty then
    let n := min (r.conforming + 1) 4
    if r.cls ≠ .flashing ∧ f.confirm ≤ n then ({ r with conforming := n, cls := .flashing }, some t)
    else ({ r with conforming := n }, none)
  else if r.cls = .flashing then ({ r with conforming := 0, cls := .irregular }, some t)
  else ({ r with conforming := 0 }, none)

/-- A leading edge with stamp `t`: the start of a measurement (R45), or the end of a cycle (R46). -/
def leadingEdge (f : FlashProfile) (t : Stamp) (r : FlashRecord) : FlashRecord × Option Stamp :=
  match r.leading with
  | none => ({ r with leading := some t, conforming := 0 }, none)
  | some lp =>
    let period := t - lp
    let onTime := (r.trailing.getD lp) - lp
    let (r', stamp) := judgeCycle f t period (dutyOf onTime period)
      { r with lastPeriod := some period, lastOn := some onTime }
    ({ r' with leading := some t }, stamp)

/-- An accepted edge to level `v` with stamp `t` (R41, R44 to R46). -/
def flashEdge (f : FlashProfile) (v : Level) (t : Stamp) (r : FlashRecord) : FlashRecord × Option Stamp :=
  if v = f.active then leadingEdge f t r else ({ r with trailing := some t }, none)

/-- The classifier's handling of one completion for a flash-profiled contact: the silence check, then the edge (R42). -/
def classify (f : FlashProfile) (s : Stamp) (accepted : Option Level) (e : SampleEvent) (r : FlashRecord) :
    FlashRecord × Option Stamp :=
  let (r1, t1) := silenceCheck f s r
  match e, accepted with
  | .edge t, some v =>
    let (r2, t2) := flashEdge f v t r1
    (r2, later t1 t2)
  | _, _ => (r1, t1)

/-- What reaches a contact at one completion. -/
structure ContactInput where
  lost : Bool
  sample : Option Level
deriving DecidableEq, Repr

/-- The sample a contact receives, if any (R26). -/
def sampleStep (p : ContactProfile) (s : Stamp) (sample : Option Level) (c : Contact) : Contact × SampleEvent :=
  match sample with
  | none => (c, .nothing)
  | some v => takeSample p v s c

/-- The class of a flash-profiled contact at one completion (R42). -/
def classStep (flash : Option FlashProfile) (s : Stamp) (e : SampleEvent) (c : Contact) : Contact × Option Stamp :=
  match flash with
  | none => (c, none)
  | some f =>
    let (r, t) := classify f s c.accepted e c.flash
    ({ c with flash := r }, t)

/-- One contact at a completion with sample time `s`: loss of level, the leak check, the sample, then the classifier
(R32). The stamp is the latest of what changed the contact (R35). -/
def filterContact (p : ContactProfile) (flash : Option FlashProfile) (s : Stamp) (i : ContactInput) (c : Contact) :
    Contact × Option Stamp :=
  let c1 := if i.lost then c.loseLevel else c
  let t1 := if i.lost then some s else none
  let (c2, t2) := leakCheck p s c1
  let (c3, e) := sampleStep p s i.sample c2
  let (c4, t4) := classStep flash s e c3
  (c4, later t1 (later t2 (later e.stamp t4)))

/-! ### Profile changes (R24) -/

/-- The candidate when K falls to or below the agreement count (R24). -/
def capCandidate (depth : Nat) : Option Candidate → Option Candidate
  | none => none
  | some k => if k.count < depth then some k else if depth ≤ 1 then none else some { k with count := depth - 1 }

/-- The chatter fields at rest. -/
def Contact.quiet (c : Contact) : Contact := { c with chatterCount := 0, leakRef := none, chattering := false }

/-- A contact whose governing values change from `old` to `new` (R24). -/
def applyProfileChange (old new : ContactProfile) (c : Contact) : Contact :=
  let c1 := if old.flash ≠ new.flash then { c.quiet with flash := .cleared } else c
  let c2 := if old.limit ≠ 0 ∧ new.limit = 0 then c1.quiet else c1
  { c2 with candidate := capCandidate new.depth c2.candidate }

/-! ### The batch (R35) -/

/-- The entry of one contact, if its accepted level or a view differs. -/
def batchEntry (n : Nat) (old new : Contact) (stamp : Stamp) : Option BatchEntry :=
  if old.accepted ≠ new.accepted ∨ levelView old false ≠ levelView new false
      ∨ lampView old false ≠ lampView new false then
    some {
      contact := n
      accepted := new.accepted
      level := levelView new false
      lamp := lampView new false
      acceptedChanged := old.accepted ≠ new.accepted
      levelChanged := levelView old false ≠ levelView new false
      lampChanged := lampView old false ≠ lampView new false
      stamp := stamp }
  else none

/-- The entries of a batch from the contacts before and after, from contact number `n` on; a change without a stamp of
its own takes the batch's time. -/
def batchEntries (time : Stamp) : Nat → List Contact → List (Contact × Option Stamp) → List BatchEntry
  | n, old :: olds, (new, t) :: news =>
    (batchEntry n old new (t.getD time)).toList ++ batchEntries time (n + 1) olds news
  | _, _, _ => []

/-- The batch of a request: every stamp is the time the request was taken (R35). -/
def requestBatch (time : Stamp) (old new : List Contact) : List BatchEntry :=
  batchEntries time 0 old (new.map (fun c => (c, none)))

end Sys2Proof.Machine
end

