-- ==== Sys2Proof/Machine/Scanner.lean ====
section
/-! DEFINITION. The module scanner's shared operations (chapter 1): which module and input a contact is, how a read is
classified and applied, and the contact filter's work at a completion. -/

namespace Sys2Proof.Machine

/-! ### The map (R3) -/

/-- The position in the map and the input number of contact c, where an entry covers it; `first` is the first contact of
the first entry's range (R3). -/
def locateFrom : Nat → Nat → List ModuleRecord → Nat → Option (Nat × Nat)
  | _, _, [], _ => none
  | pos, first, m :: ms, c => if c ≤ m.last then some (pos, c - first) else locateFrom (pos + 1) (m.last + 1) ms c

/-- The position and input of a covered contact. -/
def locate (ms : List ModuleRecord) (c : Nat) : Option (Nat × Nat) := locateFrom 0 0 ms c

/-- The position and input of a mapped contact: its input number is below the entry's size (R3). -/
def mappedAt (ms : List ModuleRecord) (c : Nat) : Option (Nat × Nat) :=
  match locate ms c with
  | none => none
  | some (pos, input) =>
    match ms[pos]? with
    | some m => if input < m.size then some (pos, input) else none
    | none => none

/-- The coverage code of READ-CONTACTS: MAPPED 0, UNMAPPED 1, NOT-COVERED 2 (R36, R167). -/
def coverageCode (ms : List ModuleRecord) (c : Nat) : Nat :=
  match locate ms c, mappedAt ms c with
  | none, _ => 2
  | some _, none => 1
  | some _, some _ => 0

/-- The mapped contact c belongs to the module in this slot. -/
def mappedToSlot (ms : List ModuleRecord) (slot c : Nat) : Bool :=
  match mappedAt ms c with
  | none => false
  | some (pos, _) =>
    match ms[pos]? with
    | some m => m.slot = slot
    | none => false

/-- The module of a slot, if the slot has a map entry. -/
def findModule (ms : List ModuleRecord) (slot : Nat) : Option ModuleRecord := ms.find? (·.slot = slot)

/-- Every module of the slot is rewritten. -/
def updateModule (ms : List ModuleRecord) (slot : Nat) (f : ModuleRecord → ModuleRecord) : List ModuleRecord :=
  ms.map (fun m => if m.slot = slot then f m else m)

/-- A map entry as it starts recovery (R5, R19). -/
def ModuleEntry.start (tolerance : Nat) (e : ModuleEntry) : ModuleRecord :=
  ⟨e.slot, e.size, e.last, .recovering, tolerance, false, 0, .fresh, none⟩

/-- The slots a scan reads: every mapped module that is not OUT-OF-SERVICE, in map order, which ascends (R8). -/
def scanSlots (ms : List ModuleRecord) : List Nat := (ms.filter (·.state ≠ .outOfService)).map (·.slot)

/-! ### One read (R9 to R12) -/

/-- The size a type code names (R9). -/
def TypeCode.size : TypeCode → Option Nat
  | .size16 => some 16
  | .size32 => some 32
  | .size64 => some 64
  | .other => none

/-- The classification of what came back (R9). -/
def classifyRead (size : Nat) : BusAnswer → ReadResult
  | .nothing => .bad .noAnswer
  | .parityError => .bad .busCheck
  | .answer code inputs => if code.size = some size then .good inputs else .bad .wrongType

/-- What came back from a slot; a slot of which nothing is told sent nothing (assumption 10). -/
def answerOf (reads : List ModuleRead) (slot : Nat) : BusAnswer :=
  match reads.find? (·.slot = slot) with
  | some r => r.answer
  | none => .nothing

/-- What a completion makes of one module: its new record, the MODULE item it gives, the inputs whose samples are
delivered, and whether its contacts lose their level. -/
structure ModuleOutcome where
  record : ModuleRecord
  item : Option ModuleItem
  samples : Option (BitVec 64)
  lost : Bool
deriving DecidableEq, Repr

/-- The latch after a failure: an empty latch takes the cause, a held one keeps the first (R10). -/
def fillLatch (latch : Option ModuleLatch) (cause : FailureCause) (s : Stamp) : Option ModuleLatch :=
  match latch with
  | some l => some l
  | none => some ⟨cause, s⟩

/-- A module no result reaches. -/
def unread (m : ModuleRecord) : ModuleOutcome := ⟨m, none, none, false⟩

/-- A good read (R9, R11, R12). -/
def goodRead (tolerance : Nat) (s : Stamp) (m : ModuleRecord) (inputs : BitVec 64) : ModuleOutcome :=
  match m.state with
  | .inService => ⟨{ m with faultCounter := tolerance, suspect := false }, none, some inputs, false⟩
  | .failed =>
    ⟨{ m with state := .recovering, recovery := 1, origin := .failed }, some ⟨m.slot, .recovering, none, s⟩, none, false⟩
  | .recovering =>
    if m.recovery + 1 < Config.recoveryReads then ⟨{ m with recovery := m.recovery + 1 }, none, none, false⟩
    else
      ⟨{ m with state := .inService, faultCounter := tolerance, suspect := false, recovery := 0 },
        some ⟨m.slot, .inService, none, s⟩, some inputs, false⟩
  | .outOfService => unread m

/-- A failed read (R9 to R12). -/
def badRead (s : Stamp) (m : ModuleRecord) (cause : FailureCause) : ModuleOutcome :=
  match m.state with
  | .inService =>
    if m.faultCounter = 0 then
      ⟨{ m with state := .failed, suspect := false, latch := fillLatch m.latch cause s },
        some ⟨m.slot, .failed, some cause, s⟩, none, true⟩
    else ⟨{ m with faultCounter := m.faultCounter - 1, suspect := true }, none, none, false⟩
  | .failed => unread m
  | .recovering =>
    match m.origin with
    | .fresh => ⟨{ m with recovery := 0 }, none, none, false⟩
    | .failed =>
      ⟨{ m with state := .failed, recovery := 0, latch := fillLatch m.latch cause s },
        some ⟨m.slot, .failed, some cause, s⟩, none, false⟩
  | .outOfService => unread m

/-- One read applied to its module. -/
def applyRead (tolerance : Nat) (s : Stamp) (m : ModuleRecord) : ReadResult → ModuleOutcome
  | .good inputs => goodRead tolerance s m inputs
  | .bad cause => badRead s m cause

/-- One module at a completion: its result is applied if the scan read it and it was not discarded (R8). -/
def completeModule (tolerance : Nat) (scan : Scan) (reads : List ModuleRead) (m : ModuleRecord) : ModuleOutcome :=
  if m.slot ∈ scan.slots ∧ m.slot ∉ scan.discarded then
    applyRead tolerance scan.sampleTime m (classifyRead m.size (answerOf reads m.slot))
  else unread m

/-! ### The contacts at a completion (R26, R32) -/

/-- Bit i of the inputs as a level: 1 is CLOSED. -/
def inputLevel (inputs : BitVec 64) (i : Nat) : Level := if inputs.getLsbD i then .closed else .opened

/-- What a completion brings contact c (R26). -/
def contactInput (outcomes : List ModuleOutcome) (c : Nat) : ContactInput :=
  match mappedAt (outcomes.map (·.record)) c with
  | none => ⟨false, none⟩
  | some (pos, input) =>
    match outcomes[pos]? with
    | none => ⟨false, none⟩
    | some o => ⟨o.lost, o.samples.map (fun b => inputLevel b input)⟩

/-- The flash profile that governs a contact under its profile (R37). -/
def State.flashOf (s : State) (p : ContactProfile) : Option FlashProfile :=
  p.flash.map (fun f => s.flash.getD f .standard)

/-- Every contact at a completion with sample time `t`, with its stamp (R32). -/
def State.filterContacts (s : State) (t : Stamp) (outcomes : List ModuleOutcome) : List (Contact × Option Stamp) :=
  s.filter.contacts.mapIdx (fun n c =>
    filterContact (s.profile c.profile) (s.flashOf (s.profile c.profile)) t (contactInput outcomes n) c)

/-- MODULE items are handed over in list order (R8). -/
def State.handModules (s : State) (items : List ModuleItem) : State := items.foldl State.handModule s

/-- Every mapped contact of the slot loses its level (R13, R29). -/
def loseSlot (ms : List ModuleRecord) (slot : Nat) (cs : List Contact) : List Contact :=
  cs.mapIdx (fun n c => if mappedToSlot ms slot n then c.loseLevel else c)

/-! ### Part state (R17) -/

/-- Every mapped contact of the modules IN-SERVICE is known, and there is such a module (R17, condition a). -/
def State.acquired (s : State) : Bool :=
  s.scanner.modules.any (·.state = .inService)
    && (List.range s.filter.contacts.length).all (fun c =>
      match mappedAt s.scanner.modules c with
      | none => true
      | some (pos, _) =>
        match s.scanner.modules[pos]? with
        | some m => m.state ≠ .inService || (s.accepted c).isSome
        | none => true)

/-- The MODULE items of entry to RUNNING (R17). R17 and R109 give them no order among themselves; that they go in map order
is the model's choice (assumption 32). -/
def entryItems (ms : List ModuleRecord) (t : Stamp) : List ModuleItem :=
  (ms.filter (·.state = .failed)).map (fun m => ⟨m.slot, .failed, m.latch.map (·.cause), t⟩)

/-- The part becomes RUNNING (R17). -/
def State.enterRunning (s : State) : State := s.setScanner { s.scanner with part := .running }

/-- In ACQUIRING, a condition of R17 takes the part into RUNNING: the MODULE items of FAILED modules, then every
IN-SERVICE object marked and both lanes refilled (R109). Dirty objects are appended in the last step alone, "both those
marked in step 2 and those left marked from before", so the items are taken before the part state changes. -/
def State.judgeAcquisition (s : State) (t : Stamp) : State :=
  if s.scanner.part = .acquiring ∧ (s.acquired ∨ Config.acquisitionLimit ≤ s.scanner.acquisition) then
    (s.handModules (entryItems s.scanner.modules t)).enterRunning.markAll
  else s

end Sys2Proof.Machine
end

