-- ==== Sys2Proof/Machine/Resolver.lean ====
section
/-! DEFINITION. The resolver (chapter 5): the rule of each kind, one resolution, and what a batch does. -/

namespace Sys2Proof.Machine

/-! ### Views of an object's references -/

/-- The view a kind reads (R52). -/
def Kind.view : Kind → ViewKind
  | .track => .level
  | .points => .level
  | .signal => .lamp
  | .indication => .lamp
  | .relay => .level

/-- The level view of a reference now (R53). -/
def State.levelOf (s : State) (r : Reference) : LevelView := levelView (s.contact r.contact) r.inverted

/-- The lamp view of a reference now (R53). -/
def State.lampOf (s : State) (r : Reference) : LampView := lampView (s.contact r.contact) r.inverted

/-- The reference of a role, if the object has one. -/
def Definition.refOf (d : Definition) (role : Role) : Option Reference := d.refs.find? (·.role = role)

/-- The level view of a role, if the object has it. -/
def State.roleLevel (s : State) (d : Definition) (role : Role) : Option LevelView := (d.refOf role).map s.levelOf

/-- Some reference reads UNKNOWN; a contact's two views are UNKNOWN together (R33, R34, R75). -/
def State.someUnknown (s : State) (d : Definition) : Bool := d.refs.any (fun r => (s.accepted r.contact).isNone)

/-- The aspect number of a role (R52). -/
def Role.aspect : Role → Option Nat
  | .aspect0 => some 0
  | .aspect1 => some 1
  | .aspect2 => some 2
  | .aspect3 => some 3
  | _ => none

/-! ### The rules of the kinds -/

/-- What a rule does with the timer (R77). -/
inductive TimerAction where
  | start
  | keep
  | cancel
deriving DecidableEq, Repr

/-- What a rule gives: state code, aspect, attributes other than LATCHED, and the timer (R74 step 1). -/
structure KindOutcome where
  code : StateCode
  aspect : Option Nat
  attrs : Attrs
  timer : TimerAction
deriving DecidableEq, Repr

/-- Attributes with CHATTER alone. -/
def Attrs.ofChatter (b : Bool) : Attrs := { Attrs.empty with chatter := b }

/-- TRACK (R81, R82); `held` is the state code held, `expired` says the timer has run out (R78). -/
def trackRule (clear : LevelView) (back : Option LevelView) (held : StateCode) (timing : Nat) (expired : Bool) :
    KindOutcome :=
  if clear = .chatter ∨ back = some .chatter then ⟨.occupied, none, .ofChatter true, .cancel⟩
  else if clear = .active ∧ back = some .active then ⟨.contradiction, none, .empty, .cancel⟩
  else if clear = .active then
    if held = .occupied ∧ timing ≠ 0 ∧ expired = false then ⟨.occupied, none, .empty, .start⟩
    else ⟨.clear, none, .empty, .cancel⟩
  else ⟨.occupied, none, .empty, .cancel⟩

/-- LOCKED or FREE of a POINTS that is NORMAL or REVERSE (R83). -/
def lockAttrs (lock : Option LevelView) (chatter : Bool) : Attrs :=
  match lock with
  | none => .ofChatter chatter
  | some v => { Attrs.ofChatter chatter with locked := v = .active, free := v ≠ .active }

/-- POINTS (R83, R84). -/
def pointsRule (normal reverse : LevelView) (lock : Option LevelView) (held : StateCode) (expired : Bool) :
    KindOutcome :=
  let chatter : Bool := normal = .chatter || reverse = .chatter
  if normal = .active ∧ reverse = .active then ⟨.contradiction, none, .empty, .cancel⟩
  else if normal = .active then ⟨.normal, none, lockAttrs lock chatter, .cancel⟩
  else if reverse = .active then ⟨.reverse, none, lockAttrs lock chatter, .cancel⟩
  else if held = .lost then ⟨.lost, none, .ofChatter chatter, .cancel⟩
  else if held = .moving then
    if expired then ⟨.lost, none, .ofChatter chatter, .cancel⟩ else ⟨.moving, none, .ofChatter chatter, .keep⟩
  else ⟨.moving, none, .ofChatter chatter, .start⟩

/-- An aspect counts as lit (R85). -/
def LampView.isLit (v : LampView) : Bool := v = .lit || v = .flashing || v = .irregular

/-- The attributes of a SIGNAL SHOWING an aspect with this view (R85). -/
def showingAttrs (v : LampView) : Attrs :=
  { Attrs.empty with flashing := v = .flashing, irregular := v = .irregular }

/-- The attributes SHOWING holds under its settle timer (R76, R86). -/
def heldAttrs (a : Attrs) : Attrs := { Attrs.empty with flashing := a.flashing, irregular := a.irregular }

/-- SIGNAL (R85, R86), from the lit aspects with their views. -/
def signalRule (lit : List (Nat × LampView)) (old : Presented) (timing : Nat) (expired : Bool) : KindOutcome :=
  match lit with
  | [(n, v)] => ⟨.showing, some n, showingAttrs v, .cancel⟩
  | _ =>
    if old.code = .showing ∧ timing ≠ 0 ∧ expired = false then ⟨.showing, old.aspect, heldAttrs old.attrs, .start⟩
    else if lit.isEmpty then ⟨.dark, none, .empty, .cancel⟩
    else ⟨.contradiction, none, .empty, .cancel⟩

/-- INDICATION (R87). -/
def indicationRule (v : LampView) : KindOutcome :=
  match v with
  | .lit => ⟨.on, none, .empty, .cancel⟩
  | .dark => ⟨.off, none, .empty, .cancel⟩
  | .flashing => ⟨.flashing, none, .empty, .cancel⟩
  | .irregular => ⟨.irregular, none, .empty, .cancel⟩
  | .unknown => ⟨.unknown, none, .empty, .cancel⟩

/-- RELAY (R88, R89). -/
def relayRule (front back : LevelView) (held : StateCode) (expired : Bool) : KindOutcome :=
  let attrs := Attrs.ofChatter (front = .chatter || back = .chatter)
  if front = .active ∧ back = .active then ⟨.fault, none, attrs, .cancel⟩
  else if front = .active then ⟨.up, none, attrs, .cancel⟩
  else if back = .active then ⟨.down, none, attrs, .cancel⟩
  else if (held = .up ∨ held = .down) ∧ expired = false then ⟨held, none, attrs, .start⟩
  else ⟨.fault, none, attrs, .cancel⟩

/-- The lit aspects of a SIGNAL, in reference order. -/
def State.litAspects (s : State) (d : Definition) : List (Nat × LampView) :=
  d.refs.filterMap (fun r =>
    match r.role.aspect with
    | some n => if (s.lampOf r).isLit then some (n, s.lampOf r) else none
    | none => none)

/-- The level view of a required role. -/
def State.required (s : State) (d : Definition) (role : Role) : LevelView := (s.roleLevel d role).getD .unknown

/-- The rule of the object's kind, UNKNOWN precedence first (R75, R81 to R89). -/
def State.rule (s : State) (d : Definition) (old : Presented) (expired : Bool) : KindOutcome :=
  if s.someUnknown d then ⟨.unknown, none, .empty, .cancel⟩
  else
    match d.kind with
    | .track => trackRule (s.required d .clear) (s.roleLevel d .back) old.code d.timing expired
    | .points =>
      pointsRule (s.required d .normalDetect) (s.required d .reverseDetect) (s.roleLevel d .lock) old.code expired
    | .signal => signalRule (s.litAspects d) old d.timing expired
    | .indication => indicationRule (((d.refOf .lamp).map s.lampOf).getD .unknown)
    | .relay => relayRule (s.required d .front) (s.required d .back) old.code expired

/-! ### One resolution (R74) -/

/-- The alarm states that fill the latch: all but UNKNOWN (R90). -/
def StateCode.latches (c : StateCode) : Bool := c.isAlarm && c ≠ .unknown

/-- The recorded stamp: the cause stamp, not earlier than the last stamp (R73). -/
def recordedStamp (last : Option Stamp) (cause : Stamp) : Stamp :=
  match last with
  | none => cause
  | some t => max cause t

/-- The lane of a change (R93). -/
def changeLane (u : Urgency) (old new : StateCode) : Lane :=
  match u with
  | .allUrgent => .urgent
  | .normal => if old.isAlarm || new.isAlarm then .urgent else .routine

/-- The timer after a rule's action (R77). -/
def nextTimer (a : TimerAction) (timer : Option Stamp) (expiry : Stamp) : Option Stamp :=
  match a with
  | .cancel => none
  | .keep => timer
  | .start => some (timer.getD expiry)

/-- The latch after step 2 (R90). -/
def nextLatch (latch : Option ObjectLatch) (old new : StateCode) (stamp : Stamp) : Option ObjectLatch :=
  match latch with
  | some l => some l
  | none => if new.latches && new ≠ old then some ⟨new, stamp⟩ else none

/-- What a resolution makes of one object record: the record after, and the change, if there is one (R74). -/
def resolveRecord (n : Nat) (cause : ChangeCause) (stamp : Stamp) (o : ObjectRecord) (d : Definition) (old : Presented)
    (k : KindOutcome) : ObjectRecord × Option Change :=
  let recorded := recordedStamp o.lastStamp stamp
  let latch := nextLatch o.latch old.code k.code recorded
  let new : Presented := ⟨k.code, k.aspect, { k.attrs with latched := latch.isSome }⟩
  let timer := nextTimer k.timer o.timer (stamp + d.timing)
  if new = old then ({ o with timer := timer }, none)
  else
    ({ o with timer := timer, latch := latch, presented := some new, lastStamp := some recorded },
      some ⟨n, new, cause, recorded, changeLane d.urgency old.code new.code⟩)

/-- A change goes to the journal (R94). -/
def State.handOn (s : State) (c : Option Change) : State :=
  match c with
  | none => s
  | some c => s.handChange c

/-- Object n is resolved, if it is IN-SERVICE (R71, R74); the change is handed to the journal and returned for the press
unit. -/
def State.resolve (s : State) (n : Nat) (cause : ChangeCause) (stamp : Stamp) (expired : Bool) : State × Option Change :=
  match (s.object n).service, (s.object n).definition, (s.object n).presented with
  | .inService, some d, some old =>
    let (o', c) := resolveRecord n cause stamp (s.object n) d old (s.rule d old expired)
    ((s.setObject n o').handOn c, c)
  | _, _, _ => (s, none)

/-! ### A batch (R65, R71, R72) -/

/-- What a batch says of one object: the stamp of a changed reference, and whether it lost its level. -/
structure Hit where
  object : Nat
  stamp : Stamp
  lost : Bool
deriving DecidableEq, Repr

/-- The entry marks the view as changed (R65). -/
def BatchEntry.changes (e : BatchEntry) : ViewKind → Bool
  | .level => e.levelChanged
  | .lamp => e.lampChanged

/-- Every reference a batch reaches, through the reverse index (R65). -/
def hitsOf (index : List IndexEntry) (entries : List BatchEntry) : List Hit :=
  entries.flatMap (fun e =>
    index.filterMap (fun x =>
      if x.contact = e.contact ∧ e.changes x.view then some ⟨x.object, e.stamp, e.accepted.isNone⟩ else none))

/-- Object n is re-resolved for a batch if the batch reaches it: cause MODULE if one of its changed references lost its
level, cause stamp the latest of them (R72). -/
def State.resolveHits (hits : List Hit) (acc : State × List Change) (n : Nat) : State × List Change :=
  match hits.filter (·.object = n) with
  | [] => acc
  | h :: hs =>
    let cause := if (h :: hs).any (·.lost) then ChangeCause.module else .contact
    let r := acc.1.resolve n cause (latest h.stamp (hs.map (·.stamp))) false
    (r.1, acc.2 ++ r.2.toList)

/-- The objects a batch reaches, each once, in ascending number, with the changes made (R65). -/
def State.resolveBatch (s : State) (entries : List BatchEntry) : State × List Change :=
  (List.range s.table.objects.length).foldl (State.resolveHits (hitsOf s.table.index entries)) (s, [])

/-- A batch: the resolver, then the expectations, then the readbacks (R95, R130). -/
def State.applyBatch (s : State) (entries : List BatchEntry) : State :=
  let r := s.resolveBatch entries
  (r.1.handToPress r.2).judgeReadbacks entries

/-- A timer of object n expires: the timer goes and the object is re-resolved with cause TIMER (R78); its change goes to
the press unit after the journal (R95). -/
def State.expireTimer (s : State) (n : Nat) (expiry : Stamp) : State :=
  let r := (s.setObject n { s.object n with timer := none }).resolve n .timer expiry true
  r.1.handToPress r.2.toList

/-! ### The reverse index (R64) -/

/-- The index entries of an object (R64). -/
def indexEntries (n : Nat) (d : Definition) : List IndexEntry :=
  d.refs.map (fun r => ⟨r.contact, n, d.kind.view, r.inverted⟩)

/-- The order of the index: by contact, and under one contact by object (R64). -/
def IndexEntry.before (a b : IndexEntry) : Bool :=
  a.contact < b.contact || (a.contact = b.contact && a.object < b.object)

/-- An entry takes its place in the index. -/
def insertEntry (e : IndexEntry) : List IndexEntry → List IndexEntry
  | [] => [e]
  | x :: xs => if x.before e then x :: insertEntry e xs else e :: x :: xs

/-- An object is entered under each of its contacts (R60). -/
def enterIndex (n : Nat) (d : Definition) (index : List IndexEntry) : List IndexEntry :=
  (indexEntries n d).foldr insertEntry index

/-- An object leaves the index under each of its contacts (R62). -/
def leaveIndex (n : Nat) (index : List IndexEntry) : List IndexEntry := index.filter (·.object ≠ n)

end Sys2Proof.Machine
end

