-- ==== Sys2Proof/Machine/Link.lean ====
section
/-! DEFINITION. The desk link's shared operations (chapter 8): answering, the arbiter, what follows an event at once, and
how a valid frame is dealt with. -/

namespace Sys2Proof.Machine

def State.setReplies (s : State) (fs : List Frame) : State := s.setLink { s.link with replies := fs }

def State.setSending (s : State) (f : Option Frame) : State := s.setLink { s.link with sending := f }

/-! ### Replies (R152 to R154) -/

/-- The reply KIND: plus 0x80 within one octet (R152). -/
def replyKind (kind : Octet) : Octet := kind + 0x80#8

/-- The reply to a frame: result code, the status summary as the part stands, the owner's fields (R152, R165). -/
def State.replyFrame (s : State) (f : Frame) (r : Reply) : Frame :=
  ⟨replyKind f.kind, f.tag, oct r.result.code :: (s.summary ++ r.fields)⟩

/-- A frame joins the reply queue at its tail (R153). -/
def State.enqueue (s : State) (f : Frame) : State := s.setReplies (s.link.replies ++ [f])

/-- A reply is formed and joins the queue; forming its summary clears the request-dropped flag (R154). -/
def State.answer (s : State) (f : Frame) (r : Reply) : State := s.clearDropped.enqueue (s.replyFrame f r)

/-! ### The transmitter (R155, R156) -/

/-- The body of a REPORT frame: the summary, then the records (R156). -/
def reportFrame (summary : List Octet) (records : List Record) : Frame :=
  ⟨kindReport, 0#8, summary ++ records.flatMap Record.octets⟩

/-- A REPORT frame of lane `l` is begun: up to 8 of its oldest records leave, the lane is refilled, and then the summary
is formed (R111, R156). -/
def State.startReport (s : State) (l : Lane) : State :=
  let t := (s.dropRecords l Config.recordsPerFrame).refill l
  t.clearDropped.setSending (some (reportFrame t.summary ((s.lane l).take Config.recordsPerFrame)))

/-- The arbiter: a free transmitter takes the head of the reply queue, or in STREAM mode a REPORT from the URGENT lane,
or from the ROUTINE lane while the hold is clear (R155). After an accepted RESTART no REPORT is begun (R162). -/
def State.chooseFrame (s : State) : State :=
  if s.link.sending.isSome then s
  else
    match s.link.replies with
    | f :: fs => (s.setReplies fs).setSending (some f)
    | [] =>
      if s.link.mode = .stream ∧ s.link.restarting = false then
        if (s.lane .urgent).isEmpty = false then s.startReport .urgent
        else if s.link.hold = false ∧ (s.lane .routine).isEmpty = false then s.startReport .routine
        else s
      else s

/-! ### What follows an event at once (R79, R134) -/

/-- Object n's timer was started by the event that led from `before` to `s` and is due already (R79): it expires. -/
def State.expireAtOnce (before : State) (s : State) (n : Nat) : State :=
  match (s.object n).timer with
  | none => s
  | some e =>
    if e ≤ s.time ∧ (before.object n).timer ≠ some e then (s.expireTimer n e).chooseFrame else s

/-- A slot that entered WATCHING in the event that led from `before` to `s`, with a watch time of 0, and is not DONE
ends TIMED-OUT (R134, R136). -/
def State.endZeroWatch (before : State) (s : State) (k : Nat) : State :=
  match s.slot k with
  | .watching op e =>
    if op.watch = 0 ∧ e ≤ s.time ∧ (before.slot k).isWatching = false then
      (s.endOperation k (endReport .timedOut e)).chooseFrame
    else s
  | _ => s

/-- The expiries that are due at the moment they start, objects before slots, each in ascending number
(assumption 14). -/
def State.settle (before s : State) : State :=
  (List.range Config.pressSlots).foldl (State.endZeroWatch before)
    ((List.range s.table.objects.length).foldl (State.expireAtOnce before) s)

/-- The end of an event that began in `before`: the transmitter chooses, then what is due at once follows
(assumptions 13 and 14). -/
def State.finish (before s : State) : State := State.settle before s.chooseFrame

/-- An event that falls due at `due`, with everything that follows it at once. -/
def State.event (s : State) (due : Option Stamp) (act : Stamp → State → State) : State :=
  match due with
  | none => s
  | some d => s.atDue (some d) (fun t => t.finish (act d t))

/-! ### A valid frame (R151) -/

/-- The part takes frames: it is operating, and no accepted RESTART waits (R161, R162). -/
def State.takesFrames (s : State) : Bool := s.power = .operating && !s.link.restarting

/-- The reply queue is full (R153). -/
def State.repliesFull (s : State) : Bool := Config.replyPlaces ≤ s.link.replies.length

/-- The request-dropped flag is set (R154). -/
def State.dropRequest (s : State) : State := s.setLink { s.link with dropped := true }

/-- An owner serves a frame, and its reply is formed (R151, R152). -/
def State.serveFrame (s : State) (f : Frame) (serve : State → State × Reply) : State :=
  let r := serve s
  s.finish (r.1.answer f r.2)

/-- A valid frame: dropped when the reply queue is full; echoed in ECHO mode unless it is SET-MODE; discarded when its
reply would carry the REPORT KIND; served otherwise (R151, R152, R159). -/
def State.takeFrame (s : State) (f : Frame) (serve : State → State × Reply) : State :=
  if s.takesFrames = false then s
  else if s.repliesFull then s.dropRequest
  else if s.link.mode = .echo ∧ f.kind ≠ kindSetMode then s.finish (s.enqueue f)
  else if f.kind = kindDiscarded then s
  else s.serveFrame f serve

/-- A request arrives in its frame (R168). The frame comes whole, beside the octets of OCTET_RECEIVED: that the receiver
stays as it stands, COLLECTING too, is the model's choice (assumption 33). -/
def State.request (s : State) (i : Instr) (serve : State → State × Reply) : State :=
  match encodeRequest i with
  | some f => s.takeFrame f serve
  | none => s

end Sys2Proof.Machine
end

