-- ==== Sys2Proof/Machine/Contacts.lean ====
section
/-! DEFINITION. The requests of the contact filter and the flash classifier (chapters 2 and 3). -/

namespace Sys2Proof.Machine

/-- The contacts a request leaves, and its batch of view changes (R24, R35, R39). -/
def State.changeContacts (s : State) (contacts : List Contact) : State :=
  (s.setContacts contacts).applyBatch (requestBatch s.time s.filter.contacts contacts)

def State.setProfile (s : State) (p : Nat) (x : ContactProfile) : State :=
  { s with filter := { s.filter with profiles := s.filter.profiles.set p x } }

def State.setFlash (s : State) (p : Nat) (x : FlashProfile) : State := { s with flash := s.flash.set p x }

/-! ### DEFINE-PROFILE (R22) -/

/-- The values taken (R22). -/
def takenProfile (k h l flash : Nat) : ContactProfile :=
  ⟨clampDepth k, clampLimit h, clampLeak l, optionalOctet flash⟩

/-- The octets of a profile's values as taken (R168). -/
def ContactProfile.octets (p : ContactProfile) : List Octet :=
  [oct p.depth, oct p.limit] ++ oct2 p.leak ++ [octNum p.flash]

/-- Every contact assigned to profile `p` is treated as R24 states. -/
def reprofile (p : Nat) (old new : ContactProfile) (cs : List Contact) : List Contact :=
  cs.map (fun c => if c.profile = p then applyProfileChange old new c else c)

def serveDefineProfile (p k h l flash : Nat) (s : State) : State × Reply :=
  if s.busy then (s, refusal .busy)
  else if Config.contactProfiles ≤ p ∨ belowOrAbsent Config.flashProfiles (optionalOctet flash) = false then
    (s, refusal .badParam)
  else
    let new := takenProfile k h l flash
    ((s.setProfile p new).changeContacts (reprofile p (s.profile p) new s.filter.contacts), okWith new.octets)

/-- DEFINE_PROFILE (R22). -/
def execDefineProfile (tag : Octet) (profile k h l flash : Nat) (s : State) : Host.Outcome State Fault Refusal :=
  happens (s.request (.defineProfile tag profile k h l flash) (serveDefineProfile profile k h l flash))

/-! ### ASSIGN-PROFILE (R23) -/

/-- Contact n is in the range and carries another profile (R23). -/
def reassigned (first last p n : Nat) (c : Contact) : Bool := first ≤ n && n ≤ last && c.profile ≠ p

/-- The contacts after ASSIGN-PROFILE (R23, R24). -/
def State.assign (s : State) (first last p : Nat) : List Contact :=
  s.filter.contacts.mapIdx (fun n c =>
    if reassigned first last p n c then { applyProfileChange (s.profile c.profile) (s.profile p) c with profile := p }
    else c)

/-- How many contacts change their profile number (R23). -/
def State.assignCount (s : State) (first last p : Nat) : Nat :=
  (s.filter.contacts.mapIdx (reassigned first last p)).countP (fun b => b)

def serveAssignProfile (first last p : Nat) (s : State) : State × Reply :=
  if s.busy then (s, refusal .busy)
  else if Config.contactProfiles ≤ p ∨ Config.contacts ≤ first ∨ Config.contacts ≤ last ∨ last < first then
    (s, refusal .badParam)
  else (s.changeContacts (s.assign first last p), okWith (oct2 (s.assignCount first last p)))

/-- ASSIGN_PROFILE (R23). -/
def execAssignProfile (tag : Octet) (first last profile : Nat) (s : State) : Host.Outcome State Fault Refusal :=
  happens (s.request (.assignProfile tag first last profile) (serveAssignProfile first last profile))

/-! ### DEFINE-FLASH (R38, R39) -/

/-- The values taken (R38). -/
def takenFlash (pMin pMax dMin dMax confirm : Nat) (active : Level) : FlashProfile :=
  ⟨clampPeriodLimit pMin, clampPeriodLimit pMax, clampDuty dMin, clampDuty dMax, clampConfirm confirm, active⟩

/-- The octets of the six values as taken (R168). -/
def FlashProfile.octets (f : FlashProfile) : List Octet :=
  oct2 f.pMin ++ oct2 f.pMax ++ [oct f.dMin, oct f.dMax, oct f.confirm, oct (senseCode f.active)]

/-- The contact is governed by flash profile `p` (R37). -/
def State.governedBy (s : State) (p : Nat) (c : Contact) : Bool := (s.profile c.profile).flash = some p

/-- The effect of an accepted DEFINE-FLASH: the values, and if one changed the clearing of every governed contact; the
number is that of the contacts cleared (R39). -/
def State.defineFlash (s : State) (p : Nat) (new : FlashProfile) : State × Nat :=
  if s.flash.getD p .standard = new then (s, 0)
  else
    ((s.setFlash p new).changeContacts
        (s.filter.contacts.map (fun c => if s.governedBy p c then { c with flash := .cleared } else c)),
      s.filter.contacts.countP (s.governedBy p))

def serveDefineFlash (p pMin pMax dMin dMax confirm active : Nat) (s : State) : State × Reply :=
  if s.busy then (s, refusal .busy)
  else if Config.flashProfiles ≤ p then (s, refusal .badParam)
  else
    match senseOf active with
    | none => (s, refusal .badParam)
    | some level =>
      let new := takenFlash pMin pMax dMin dMax confirm level
      if new.pMax < new.pMin ∨ new.dMax < new.dMin then (s, refusal .badParam)
      else
        let r := s.defineFlash p new
        (r.1, okWith (new.octets ++ oct2 r.2))

/-- DEFINE_FLASH (R38). -/
def execDefineFlash (tag : Octet) (profile pMin pMax dMin dMax confirm active : Nat) (s : State) :
    Host.Outcome State Fault Refusal :=
  happens (s.request (.defineFlash tag profile pMin pMax dMin dMax confirm active)
    (serveDefineFlash profile pMin pMax dMin dMax confirm active))

/-! ### READ-CONTACTS (R36) -/

/-- The candidate's code, 3 for absent (R169). -/
def candidateCode : Option Candidate → Nat
  | some k => k.level.code
  | none => 3

/-- The agreement count: 0 without a candidate (2.2). -/
def agreement : Option Candidate → Nat
  | some k => k.count
  | none => 0

/-- The flash class code, 3 for a contact that is not flash-profiled (R169). -/
def State.classCode (s : State) (c : Contact) : Nat :=
  if (s.profile c.profile).flash.isSome then c.flash.cls.code else 3

/-- The 13 octets of contact n (R169). -/
def State.contactOctets (s : State) (n : Nat) : List Octet :=
  let c := s.contact n
  [oct (coverageCode s.scanner.modules n + 4 * acceptedCode c.accepted + 16 * candidateCode c.candidate
      + 64 * bit c.chattering),
    oct (c.profile + 16 * agreement c.candidate), oct (c.chatterCount + 16 * s.classCode c)]
    ++ octStamp (c.candidate.map (·.stamp)) ++ octNum2 c.flash.lastPeriod ++ octNum2 c.flash.lastOn

def serveReadContacts (start count : Nat) (s : State) : State × Reply :=
  if Config.contacts ≤ start then (s, refusal .badParam)
  else
    let n := readCount 64 Config.contacts 14 start count
    (s, okWith (oct2 start ++ oct n :: (List.range' start n).flatMap s.contactOctets))

/-- READ_CONTACTS (R36). -/
def execReadContacts (tag : Octet) (start count : Nat) (s : State) : Host.Outcome State Fault Refusal :=
  happens (s.request (.readContacts tag start count) (serveReadContacts start count))

end Sys2Proof.Machine
end

