-- ==== Sys2Proof/Machine/LinkRequests.lean ====
section
/-! DEFINITION. The requests of the desk link, the time base and the change journal (R2, R110, R112, R114, R158,
R160). -/

namespace Sys2Proof.Machine

/-! ### IDENTIFY (R160) -/

/-- The strap octet of IDENTIFY (R168). -/
def Straps.octet (x : Straps) : Octet :=
  oct (2 * bit x.rate1 + bit x.rate0 + 4 * bit x.pressEnable + 8 * bit x.storeIgnore)

def serveIdentify (s : State) : State × Reply := (s, okWith [0x71#8, 0x01#8, oct s.straps.unit, s.straps.octet])

/-- IDENTIFY (R160). -/
def execIdentify (tag : Octet) (s : State) : Host.Outcome State Fault Refusal :=
  happens (s.request (.identify tag) serveIdentify)

/-! ### READ-TIME (R2) -/

def serveReadTime (s : State) : State × Reply := (s, okWith (oct6 s.time ++ octStamp s.scanner.lastSample))

/-- READ_TIME (R2). -/
def execReadTime (tag : Octet) (s : State) : Host.Outcome State Fault Refusal :=
  happens (s.request (.readTime tag) serveReadTime)

/-! ### SET-MODE (R158) -/

def State.setMode (s : State) (m : LinkMode) : State := s.setLink { s.link with mode := m }

def serveSetMode (mode : Nat) (s : State) : State × Reply :=
  match modeOf mode with
  | none => (s, refusal .badParam)
  | some m => (s.setMode m, okWith [oct m.code])

/-- SET_MODE (R158). -/
def execSetMode (tag : Octet) (mode : Nat) (s : State) : Host.Outcome State Fault Refusal :=
  happens (s.request (.setMode tag mode) (serveSetMode mode))

/-! ### FLOW (R114) -/

def State.setHold (s : State) (h : Bool) : State := s.setLink { s.link with hold := h }

def serveFlow (hold : Nat) (s : State) : State × Reply :=
  match flagOf hold with
  | none => (s, refusal .badParam)
  | some h => (s.setHold h, okWith [oct (bit h)])

/-- FLOW (R114). -/
def execFlow (tag : Octet) (hold : Nat) (s : State) : Host.Outcome State Fault Refusal :=
  happens (s.request (.flow tag hold) (serveFlow hold))

/-! ### FETCH (R112) -/

/-- The URGENT records a FETCH takes (R112 step 1). -/
def State.fetchUrgent (s : State) (count : Nat) : List Record :=
  (s.lane .urgent).take (min count Config.recordsPerFrame)

/-- The ROUTINE records a FETCH takes under the selection URGENT then ROUTINE (R112 step 2). -/
def State.fetchRoutine (s : State) (both : Bool) (count : Nat) : List Record :=
  if both then (s.lane .routine).take (min count Config.recordsPerFrame - (s.fetchUrgent count).length) else []

/-- A lane from which n records were taken is refilled (R112 step 4). -/
def State.refillTaken (s : State) (l : Lane) (n : Nat) : State := if n = 0 then s else s.refill l

/-- The records leave their lanes, and each lane from which some were taken is refilled (R112 steps 3 and 4). -/
def State.fetched (s : State) (u r : Nat) : State :=
  (((s.dropRecords .urgent u).dropRecords .routine r).refillTaken .urgent u).refillTaken .routine r

/-- The reply fields of FETCH (R168). -/
def fetchOctets (u r : List Record) : List Octet :=
  oct u.length :: oct r.length :: (u ++ r).flatMap Record.octets

def serveFetch (selection count : Nat) (s : State) : State × Reply :=
  match flagOf selection with
  | none => (s, refusal .badParam)
  | some both =>
    let u := s.fetchUrgent count
    let r := s.fetchRoutine both count
    (s.fetched u.length r.length, okWith (fetchOctets u r))

/-- FETCH (R112). -/
def execFetch (tag : Octet) (selection count : Nat) (s : State) : Host.Outcome State Fault Refusal :=
  happens (s.request (.fetch tag selection count) (serveFetch selection count))

/-! ### SYNC (R110) -/

def serveSync (s : State) : State × Reply :=
  if s.running then (s.markAll, okWith (oct2 s.inServiceCount)) else (s, refusal .badState)

/-- SYNC (R110). -/
def execSync (tag : Octet) (s : State) : Host.Outcome State Fault Refusal :=
  happens (s.request (.sync tag) serveSync)

end Sys2Proof.Machine
end

