-- ==== Sys2Proof/Machine/Load.lean ====
section
/-! DEFINITION. Power and the start-up load (chapter 10): POWER_ON, POWER_LOSS, START_UP_LOAD_COMPLETE, and the
reinitialisation of RESTART. -/

namespace Sys2Proof.Machine

/-- Every block takes its power-on values over what the non-volatile memory holds (R19, R25, R40, R70, R116, R146, R161,
R173); power, straps, box time and the queue of commands stand. -/
def State.blocksBlank (s : State) : State :=
  { s with
    scanner := .blank
    filter := .blank
    flash := blankFlashProfiles
    table := .blank
    journal := .empty
    press := .blank
    link := .start
    store := .start s.store.image }

def State.setPower (s : State) (p : Power) : State := { s with power := p }

def State.setStraps (s : State) (x : Straps) : State := { s with straps := x }

/-- The reinitialisation of RESTART: the blocks take their reset values and the load runs; box time keeps counting and
the straps are kept (R178). -/
def State.reinitialise (s : State) : State := s.blocksBlank.setPower (.loading s.time)

/-! ### The load (R177) -/

/-- The judgement of what the memory holds (R172). -/
def StoredImage.valid : StoredImage → Bool
  | .neverWritten => false
  | .erased => false
  | .intact _ => true
  | .other c k => k = imageCheck c

/-- The contents read from the memory, if it holds any. -/
def StoredImage.contents : StoredImage → Option ImageContents
  | .neverWritten => none
  | .erased => none
  | .intact c => some c
  | .other c _ => some c

/-- What the load applies: the image where it is valid and store-ignore is open, the defaults otherwise (R177). -/
def loadedContents (image : StoredImage) (ignore : Bool) : ImageContents :=
  match image.contents with
  | some c => if image.valid ∧ ignore = false then c else .standard
  | none => .standard

/-- An object of the image after the load (R70). -/
def loadObject : Option StoredObject → ObjectRecord
  | none => .undefined
  | some o =>
    if o.inService then ⟨.inService, some o.definition, some (.plain .unknown), none, none, none, none⟩
    else ⟨.outOfService, some o.definition, some (.plain .outOfService), none, none, none, none⟩

/-- The reverse index entries of one object of the image (R64, R70). -/
def loadIndexStep (index : List IndexEntry) (x : Nat × Option StoredObject) : List IndexEntry :=
  match x.2 with
  | some o => if o.inService then enterIndex x.1 o.definition index else index
  | none => index

/-- The reverse index after the load: every IN object under each of its contacts (R70). -/
def loadIndex (objects : List (Option StoredObject)) : List IndexEntry :=
  ((List.range objects.length).zip objects).foldl loadIndexStep []

/-- An output of the image after the load (R118). -/
def loadOutput : Option StoredOutput → OutputRecord
  | none => .undefined
  | some o => ⟨true, o.pulse, o.readback, o.sense, .idle, none, none, none, none⟩

/-- The scanner after the load at time `t`: ACQUIRING with a first scan at once, or UNCONFIGURED (R6, R19). -/
def loadScanner (c : ImageContents) (t : Stamp) : Scanner where
  part := if c.map.isEmpty then .unconfigured else .acquiring
  acquisition := 0
  period := c.period
  tolerance := c.tolerance
  modules := c.map.map (ModuleEntry.start c.tolerance)
  scan := none
  nextScan := if c.map.isEmpty then none else some t
  lastSample := none

/-- Contents applied to their owners (R177). -/
def State.applyContents (s : State) (c : ImageContents) : State :=
  { s with
    scanner := loadScanner c s.time
    filter := ⟨c.profiles, c.assignments.map Contact.fresh⟩
    flash := c.flashProfiles
    table := ⟨c.objects.map loadObject, loadIndex c.objects⟩
    press := { s.press with outputs := c.outputs.map loadOutput } }

/-- The image-valid indication is set to the load's judgement (R172, R177). -/
def State.judgeImage (s : State) : State := s.setStore { s.store with imageValid := s.store.image.valid }

/-! ### The commands -/

/-- POWER_ON (R177): box time starts at 0, the straps are sampled, every block takes its power-on values, the load
begins. On a part that has power it is a loss of power and its return (assumption 8). -/
def execPowerOn (straps : Straps) (s : State) : Host.Outcome State Fault Refusal :=
  happens (((s.blocksBlank.setTime 0).setStraps straps).setPower (.loading 0))

/-- POWER_LOSS (R175): all activity stops; the non-volatile image stays as it stands. -/
def execPowerLoss (s : State) : Host.Outcome State Fault Refusal := happens (s.blocksBlank.setPower .off)

/-- The start-up load completes now (R177). -/
def State.completeLoad (s : State) : State :=
  (s.judgeImage.applyContents (loadedContents s.store.image s.straps.storeIgnore)).setPower .operating

/-- START_UP_LOAD_COMPLETE (R177); it has no effect on a part that is not loading (assumption 4). -/
def execStartUpLoadComplete (s : State) : Host.Outcome State Fault Refusal :=
  happens
    (match s.power with
      | .loading _ => s.completeLoad
      | .off => s
      | .operating => s)

end Sys2Proof.Machine
end

