-- ==== Sys2Proof/Machine/Objects.lean ====
section
/-! DEFINITION. The requests of the object table and the resolver (chapters 4 and 5). -/

namespace Sys2Proof.Machine

/-- A change that no resolution made goes to the journal and then to the press unit (R62, R91, R95). -/
def State.handAlone (s : State) (c : Change) : State := (s.handChange c).handToPress [c]

/-- The urgency of an object's definition; NORMAL where it has none. -/
def ObjectRecord.urgency (o : ObjectRecord) : Urgency :=
  match o.definition with
  | some d => d.urgency
  | none => .normal

/-- The state code an object presents; OUT-OF-SERVICE where it presents nothing. -/
def ObjectRecord.code (o : ObjectRecord) : StateCode :=
  match o.presented with
  | some p => p.code
  | none => .outOfService

/-! ### Definition (R57 to R59) -/

/-- The record an accepted DEFINE-OBJECT leaves (R58). -/
def Definition.record (d : Definition) : ObjectRecord :=
  ⟨.outOfService, some d, some (.plain .outOfService), none, none, none, none⟩

def serveDefineObject (n kind urgency timing : Nat) (refs : List ReferenceField) (s : State) : State × Reply :=
  if s.busy then (s, refusal .busy)
  else if Config.objects ≤ n then (s, refusal .badParam)
  else if (s.object n).service = .inService then (s, refusal .badState)
  else
    match readDefinition kind urgency timing refs with
    | none => (s, refusal .badParam)
    | some d => (s.setObject n d.record, okWith (oct2 d.timing))

/-- DEFINE_OBJECT (R57). -/
def execDefineObject (tag : Octet) (object kind urgency timing : Nat) (refs : List ReferenceField) (s : State) :
    Host.Outcome State Fault Refusal :=
  happens (s.request (.defineObject tag object kind urgency timing refs)
    (serveDefineObject object kind urgency timing refs))

def serveRemoveObject (n : Nat) (s : State) : State × Reply :=
  if s.busy then (s, refusal .busy)
  else if Config.objects ≤ n then (s, refusal .badParam)
  else if (s.object n).service = .outOfService then (s.setObject n .undefined, okWith [])
  else (s, refusal .badState)

/-- REMOVE_OBJECT (R59). -/
def execRemoveObject (tag : Octet) (object : Nat) (s : State) : Host.Outcome State Fault Refusal :=
  happens (s.request (.removeObject tag object) (serveRemoveObject object))

/-! ### Service (R60, R62) -/

/-- The effect of OBJECT-SERVICE in: in service, in the reverse index, resolved at once (R60). -/
def State.takeObjectIn (s : State) (n : Nat) (d : Definition) : State :=
  let t := (s.setObject n { s.object n with service := .inService }).setIndex (enterIndex n d s.table.index)
  let r := t.resolve n .service s.time false
  r.1.handToPress r.2.toList

def serveObjectServiceIn (n : Nat) (s : State) : State × Reply :=
  if s.busy then (s, refusal .busy)
  else if Config.objects ≤ n then (s, refusal .badParam)
  else
    match (s.object n).service, (s.object n).definition with
    | .outOfService, some d =>
      let t := s.takeObjectIn n d
      (t, okWith (presentedOctets (t.object n).presented))
    | _, _ => (s, refusal .badState)

/-- OBJECT_SERVICE_IN (R60). -/
def execObjectServiceIn (tag : Octet) (object : Nat) (s : State) : Host.Outcome State Fault Refusal :=
  happens (s.request (.objectServiceIn tag object) (serveObjectServiceIn object))

/-- The presented state of an object out of service: LATCHED alone where the latch is held (R62). -/
def ObjectRecord.outPresented (o : ObjectRecord) : Presented :=
  ⟨.outOfService, none, { Attrs.empty with latched := o.latch.isSome }⟩

/-- The record OBJECT-SERVICE out leaves at time `t` (R62). -/
def ObjectRecord.takenOut (o : ObjectRecord) (t : Stamp) : ObjectRecord :=
  { o with
    service := .outOfService
    timer := none
    presented := some o.outPresented
    lastStamp := some (recordedStamp o.lastStamp t) }

/-- The change OBJECT-SERVICE out gives (R62). -/
def ObjectRecord.outChange (o : ObjectRecord) (n : Nat) (t : Stamp) : Change :=
  ⟨n, o.outPresented, .service, recordedStamp o.lastStamp t, changeLane o.urgency o.code .outOfService⟩

/-- The effect of OBJECT-SERVICE out (R62). -/
def State.takeObjectOut (s : State) (n : Nat) : State :=
  ((s.setObject n ((s.object n).takenOut s.time)).setIndex (leaveIndex n s.table.index)).handAlone
    ((s.object n).outChange n s.time)

def serveObjectServiceOut (n : Nat) (s : State) : State × Reply :=
  if s.busy then (s, refusal .busy)
  else if Config.objects ≤ n then (s, refusal .badParam)
  else if (s.object n).service = .inService then (s.takeObjectOut n, okWith [])
  else (s, refusal .badState)

/-- OBJECT_SERVICE_OUT (R62). -/
def execObjectServiceOut (tag : Octet) (object : Nat) (s : State) : Host.Outcome State Fault Refusal :=
  happens (s.request (.objectServiceOut tag object) (serveObjectServiceOut object))

/-! ### Reading (R68, R69) -/

/-- The 4 octets of a reference (R167). -/
def Reference.octets (r : Reference) : List Octet := oct2 r.contact ++ [oct r.role.code, oct (bit r.inverted)]

/-- The reply fields of READ-DEFINITION (R168). -/
def definitionOctets (n : Nat) (service : Service) (d : Definition) : List Octet :=
  oct2 n ++ [oct service.code, oct d.kind.code, oct d.urgency.code] ++ oct2 d.timing ++ oct d.refs.length
    :: d.refs.flatMap Reference.octets

def serveReadDefinition (n : Nat) (s : State) : State × Reply :=
  if Config.objects ≤ n then (s, refusal .badParam)
  else if (s.object n).service = .undefined then (s, refusal .notDefined)
  else
    match (s.object n).definition with
    | some d => (s, okWith (definitionOctets n (s.object n).service d))
    | none => (s, refusal .notDefined)

/-- READ_DEFINITION (R68). -/
def execReadDefinition (tag : Octet) (object : Nat) (s : State) : Host.Outcome State Fault Refusal :=
  happens (s.request (.readDefinition tag object) (serveReadDefinition object))

/-- The kind code, 0 for absent (R169). -/
def kindCode : Option Definition → Nat
  | some d => d.kind.code
  | none => 0

/-- The code of a latch, 0 for absent (R163). -/
def latchCode : Option ObjectLatch → Nat
  | some l => l.code.code
  | none => 0

/-- The 23 octets of an object (R169). -/
def ObjectRecord.octets (o : ObjectRecord) : List Octet :=
  [oct (o.service.code + 4 * kindCode o.definition + 32 * bit o.dirty.isSome + 64 * bit (o.dirty = some .urgent))]
    ++ presentedOctets o.presented ++ octStamp o.lastStamp ++ octStamp o.timer ++ [oct (latchCode o.latch)]
    ++ octStamp (o.latch.map (·.stamp))

def serveReadObjects (start count : Nat) (s : State) : State × Reply :=
  if Config.objects ≤ start then (s, refusal .badParam)
  else
    let n := readCount 12 Config.objects 8 start count
    (s, okWith (oct2 start ++ oct n :: (List.range' start n).flatMap (fun i => (s.object i).octets)))

/-- READ_OBJECTS (R69). -/
def execReadObjects (tag : Octet) (start count : Nat) (s : State) : Host.Outcome State Fault Refusal :=
  happens (s.request (.readObjects tag start count) (serveReadObjects start count))

/-! ### CHECK (R97) -/

/-- What CHECK reports of an item that does not match (R97). -/
def State.mismatchOctets (s : State) (i : CheckItem) : List Octet :=
  oct2 i.object ++ oct (s.object i.object).service.code :: presentedOctets (s.object i.object).presented

/-- The items that do not match, in order (R97). -/
def State.mismatches (s : State) (items : List CheckItem) : List CheckItem := items.filter (fun i => !s.itemMatches i)

def serveCheck (fields : List CheckItemField) (s : State) : State × Reply :=
  if 16 < fields.length then (s, refusal .badParam)
  else
    match readCheckItems fields with
    | none => (s, refusal .badParam)
    | some items =>
      let missed := s.mismatches items
      (s, okWith (oct (bit missed.isEmpty) :: oct missed.length :: missed.flatMap s.mismatchOctets))

/-- CHECK (R97). -/
def execCheck (tag : Octet) (items : List CheckItemField) (s : State) : Host.Outcome State Fault Refusal :=
  happens (s.request (.check tag items) (serveCheck items))

/-! ### CLEAR-LATCH for an object (R91) -/

/-- LATCHED is removed from a presented state (R91). -/
def Presented.unlatched (p : Presented) : Presented := { p with attrs := { p.attrs with latched := false } }

/-- The record after its latch is emptied at time `t` (R91). -/
def ObjectRecord.unlatched (o : ObjectRecord) (p : Presented) (t : Stamp) : ObjectRecord :=
  { o with latch := none, presented := some p.unlatched, lastStamp := some (recordedStamp o.lastStamp t) }

/-- The change of an emptied latch (R91). -/
def ObjectRecord.unlatchChange (o : ObjectRecord) (n : Nat) (p : Presented) (t : Stamp) : Change :=
  ⟨n, p.unlatched, .latch, recordedStamp o.lastStamp t, changeLane o.urgency p.code p.code⟩

/-- The effect of emptying a held latch (R91). -/
def State.unlatchObject (s : State) (n : Nat) (p : Presented) : State :=
  (s.setObject n ((s.object n).unlatched p s.time)).handAlone ((s.object n).unlatchChange n p s.time)

def serveClearLatchObject (n : Nat) (s : State) : State × Reply :=
  if Config.objects ≤ n then (s, refusal .badParam)
  else if (s.object n).service = .undefined then (s, refusal .notDefined)
  else
    match (s.object n).presented with
    | none => (s, refusal .notDefined)
    | some p =>
      if p.code.isAlarm then (s, refusal .stillActive)
      else if (s.object n).latch = none then (s, okWith [])
      else (s.unlatchObject n p, okWith [])

/-- CLEAR_LATCH_OBJECT (R91). -/
def execClearLatchObject (tag : Octet) (number : Nat) (s : State) : Host.Outcome State Fault Refusal :=
  happens (s.request (.clearLatchObject tag number) (serveClearLatchObject number))

end Sys2Proof.Machine
end

