-- ==== Sys2Proof/Machine/PressRequests.lean ====
section
/-! DEFINITION. The requests of the press unit (chapter 7). -/

namespace Sys2Proof.Machine

/-! ### DEFINE-OUTPUT (R119) -/

/-- The fields of DEFINE-OUTPUT are in range: the defined field and the sense as read, the readback contact (R119). -/
def outputFields (defined readback sense : Nat) : Option (Bool × Option Nat × Level) :=
  match flagOf defined, senseOf sense with
  | some d, some l =>
    if belowOrAbsent Config.contacts (optionalTwo readback) then some (d, optionalTwo readback, l) else none
  | _, _ => none

/-- The record after DEFINE-OUTPUT: written as a whole, or undefined with its other fields kept (R119). -/
def OutputRecord.redefined (r : OutputRecord) (pulse : Nat) (fields : Bool × Option Nat × Level) : OutputRecord :=
  if fields.1 then ⟨true, pulse, fields.2.1, fields.2.2, .idle, none, none, none, none⟩
  else { r with defined := false }

def serveDefineOutput (o defined pulse readback sense : Nat) (s : State) : State × Reply :=
  if s.busy then (s, refusal .busy)
  else if Config.outputs ≤ o then (s, refusal .badParam)
  else
    match outputFields defined readback sense with
    | none => (s, refusal .badParam)
    | some fields =>
      if (s.output o).defined ∧ (s.output o).state ≠ .idle then (s, refusal .badState)
      else (s.setOutput o ((s.output o).redefined (clampPulse pulse) fields), okWith (oct2 (clampPulse pulse)))

/-- DEFINE_OUTPUT (R119). -/
def execDefineOutput (tag : Octet) (output defined pulse readback sense : Nat) (s : State) :
    Host.Outcome State Fault Refusal :=
  happens (s.request (.defineOutput tag output defined pulse readback sense)
    (serveDefineOutput output defined pulse readback sense))

/-! ### PRESS (R123, R124) -/

/-- The step list is one PRESS accepts: 1 to 4 outputs in range, none twice (R123, check 3). -/
def stepsFit (steps : List Nat) : Bool :=
  steps.length ≠ 0 && steps.length ≤ 4 && steps.all (· < Config.outputs) && steps.Nodup

/-- The expectations a PRESS carries, if there are at most 4, each a check item CHECK accepts, each naming an IN-SERVICE
object (R123, check 3). -/
def State.readExpects (s : State) (items : List CheckItemField) : Option (List CheckItem) :=
  if items.length ≤ 4 then
    match readCheckItems items with
    | some is => if is.all (fun i => (s.object i.object).service = .inService) then some is else none
    | none => none
  else none

/-- Output o has a readback contact whose accepted level is UNKNOWN (R123, check 7). -/
def State.readbackUnknown (s : State) (o : Nat) : Bool :=
  match (s.output o).readback with
  | some c => (s.accepted c).isNone
  | none => false

/-- Output o is CLAIMED, DRIVEN or RELEASING (R123, check 6). -/
def State.outputTaken (s : State) (o : Nat) : Bool :=
  (s.output o).state = .claimed || (s.output o).state = .driven || (s.output o).state = .releasing

/-- A refusal that names the first output at fault (R123, R165). -/
def faultRefusal (r : ResultCode) (o : Nat) : Reply := ⟨r, [oct o]⟩

/-- Checks 4 to 7 of PRESS, in their order, each over the steps in list order (R123). -/
def State.stepFault (s : State) (steps : List Nat) : Option Reply :=
  match steps.find? (fun o => !(s.output o).defined) with
  | some o => some (faultRefusal .notDefined o)
  | none =>
    match steps.find? (fun o => (s.output o).state = .faulted) with
    | some o => some (faultRefusal .outputFault o)
    | none =>
      match steps.find? s.outputTaken with
      | some o => some (faultRefusal .claimed o)
      | none =>
        match steps.find? s.readbackUnknown with
        | some o => some (faultRefusal .badState o)
        | none => none

/-- Every step's output becomes CLAIMED with slot k as owner (R124). -/
def State.claim (s : State) (k : Nat) (steps : List Nat) : State :=
  s.setOutputs
    (s.press.outputs.mapIdx (fun o r => if o ∈ steps then { r with state := .claimed, owner := some k } else r))

/-- The lowest FREE slot (R124). -/
def State.freeSlot (s : State) : Option Nat := s.press.slots.findIdx? (·.isFree)

def servePress (deskTag : Nat) (steps : List Nat) (gap watch : Nat) (items : List CheckItemField) (s : State) :
    State × Reply :=
  if s.running = false then (s, refusal .badState)
  else if s.press.inhibit then (s, refusal .inhibited)
  else if stepsFit steps = false then (s, refusal .badParam)
  else
    match s.readExpects items with
    | none => (s, refusal .badParam)
    | some expects =>
      match s.stepFault steps with
      | some r => (s, r)
      | none =>
        match s.freeSlot with
        | none => (s, refusal .noSlot)
        | some k =>
          ((s.claim k steps).stepDue k ⟨deskTag, steps, 1, clampGap gap, clampWatch watch, expects⟩,
            okWith (oct k :: (oct2 (clampGap gap) ++ oct2 (clampWatch watch))))

/-- PRESS (R123, R124). -/
def execPress (tag : Octet) (deskTag : Nat) (steps : List Nat) (gap watch : Nat) (items : List CheckItemField)
    (s : State) : Host.Outcome State Fault Refusal :=
  happens (s.request (.press tag deskTag steps gap watch items) (servePress deskTag steps gap watch items))

/-! ### PRESS-STATUS (R144) -/

/-- The output of a slot's current step. -/
def Operation.record (op : Operation) (s : State) : OutputRecord :=
  match op.current with
  | some o => s.output o
  | none => .undefined

/-- The running expiry PRESS-STATUS shows (R144, R169). -/
def State.runningExpiry (s : State) : Slot → Option Stamp
  | .driving op => (op.record s).pulseEnd
  | .releasing op => (op.record s).windowEnd
  | .gap _ e => some e
  | .watching _ e => some e
  | .free _ => none
  | .waiting _ => none
  | .ended _ _ => none

/-- The position of slot k in the permit queue, counted from 1 (R144). -/
def State.queuePosition (s : State) (k : Nat) : Option Nat := (s.press.queue.findIdx? (· = k)).map (· + 1)

/-- The match flags: bit i for expectation i + 1 (R169). -/
def State.matchFlags (s : State) : Nat → List CheckItem → Nat
  | _, [] => 0
  | i, c :: cs => bit (s.itemMatches c) * 2 ^ i + s.matchFlags (i + 1) cs

/-- Current step and number of steps, absent where the state has none (R144). -/
def Slot.progress : Slot → List Octet
  | .waiting op => [oct op.step, oct op.steps.length]
  | .driving op => [oct op.step, oct op.steps.length]
  | .releasing op => [oct op.step, oct op.steps.length]
  | .gap op _ => [oct op.step, oct op.steps.length]
  | .watching _ _ => [octNum none, octNum none]
  | .free _ => [octNum none, octNum none]
  | .ended _ _ => [octNum none, octNum none]

/-- The tag of a slot (R144). -/
def Slot.tag : Slot → Option Nat
  | .ended tag _ => some tag
  | x => x.operation.map (·.tag)

/-- The report a slot shows: ENDED its own, FREE the last-end report (R144). -/
def Slot.report : Slot → Option EndReport
  | .ended _ rep => some rep
  | .free last => last
  | _ => none

/-- The four step outputs, 0xFF beyond the last step (R169). -/
def stepOctets (steps : List Nat) : List Octet := (List.range 4).map (fun i => octNum steps[i]?)

/-- The end report's octets: outcome, failing output, driver cause, end stamp (R169). -/
def reportOctets : Option EndReport → List Octet
  | some r => [oct r.outcome.code, octNum r.failing, oct (match r.cause with | some c => c.code | none => 0)]
      ++ oct6 r.stamp
  | none => [oct 0, octNum none, oct 0] ++ octStamp none

/-- The match flags of a slot: of its expectations while it watches (R144). -/
def State.slotFlags (s : State) : Slot → Nat
  | .watching op _ => s.matchFlags 0 op.expects
  | _ => 0

/-- The queue position of slot k while it waits (R144). -/
def State.slotPosition (s : State) (k : Nat) : Option Nat :=
  match s.slot k with
  | .waiting _ => s.queuePosition k
  | _ => none

/-- The 31 octets of slot k (R169). -/
def State.slotOctets (s : State) (k : Nat) : List Octet :=
  let x := s.slot k
  let op := x.operation
  oct x.code :: x.progress ++ octNum2 x.tag ++ stepOctets ((op.map (·.steps)).getD [])
    ++ octNum2 (op.map (·.gap)) ++ octNum2 (op.map (·.watch)) ++ [octNum (op.map (·.expects.length))]
    ++ octStamp (s.runningExpiry x) ++ [octNum (s.slotPosition k), oct (s.slotFlags x)] ++ reportOctets x.report

def servePressStatus (k : Nat) (s : State) : State × Reply :=
  if Config.pressSlots ≤ k then (s, refusal .badParam) else (s, okWith (s.slotOctets k))

/-- PRESS_STATUS (R144). -/
def execPressStatus (tag : Octet) (slot : Nat) (s : State) : Host.Outcome State Fault Refusal :=
  happens (s.request (.pressStatus tag slot) (servePressStatus slot))

/-! ### PRESS-ABORT (R139) -/

def servePressAbort (k : Nat) (s : State) : State × Reply :=
  if Config.pressSlots ≤ k then (s, refusal .badParam)
  else
    match (s.slot k).operation with
    | none => (s, refusal .badState)
    | some _ => (s.endOperation k (endReport .aborted s.time), okWith [])

/-- PRESS_ABORT (R139). -/
def execPressAbort (tag : Octet) (slot : Nat) (s : State) : Host.Outcome State Fault Refusal :=
  happens (s.request (.pressAbort tag slot) (servePressAbort slot))

/-! ### PRESS-INHIBIT (R122) -/

/-- The slot is active and not WATCHING (R122). -/
def Slot.isPressing (x : Slot) : Bool := x.operation.isSome && !x.isWatching

/-- Inhibit ends the operation of slot k, if it is still pressing (R122). -/
def State.inhibitSlot (s : State) (k : Nat) : State :=
  if (s.slot k).isPressing then s.endOperation k (endReport .inhibited s.time) else s

def servePressInhibitOn (s : State) : State × Reply :=
  ((List.range Config.pressSlots).foldl State.inhibitSlot (s.setInhibit true),
    okWith [oct 1, oct (s.press.slots.countP (·.isPressing))])

/-- PRESS_INHIBIT_ON (R122). -/
def execPressInhibitOn (tag : Octet) (s : State) : Host.Outcome State Fault Refusal :=
  happens (s.request (.pressInhibitOn tag) servePressInhibitOn)

def servePressInhibitOff (s : State) : State × Reply :=
  if s.straps.pressEnable then (s.setInhibit false, okWith [oct 0, oct 0]) else (s, refusal .inhibited)

/-- PRESS_INHIBIT_OFF (R122). -/
def execPressInhibitOff (tag : Octet) (s : State) : Host.Outcome State Fault Refusal :=
  happens (s.request (.pressInhibitOff tag) servePressInhibitOff)

/-! ### READ-OUTPUTS (R145) -/

/-- The fault cause code, 0 for absent (R163). -/
def driverCode : Option DriverCause → Nat
  | some c => c.code
  | none => 0

/-- Pulse end or window end, whichever is running (R145). -/
def OutputRecord.runningEnd (r : OutputRecord) : Option Stamp :=
  match r.pulseEnd with
  | some e => some e
  | none => r.windowEnd

/-- The 13 octets of an output (R169). -/
def OutputRecord.octets (r : OutputRecord) : List Octet :=
  [oct (bit r.defined + 2 * senseCode r.sense + 4 * r.state.code)] ++ oct2 r.pulse ++ octNum2 r.readback
    ++ [octNum r.owner] ++ octStamp r.runningEnd ++ [oct (driverCode r.fault)]

/-- The output that holds permit p (R145). -/
def State.permitOutput (s : State) (p : Nat) : Option Nat :=
  match s.press.permits.getD p none with
  | none => none
  | some k =>
    match (s.slot k).operation with
    | none => none
    | some op => op.current

/-- The header of READ-OUTPUTS (R169). -/
def State.outputsHeader (s : State) (start n : Nat) : List Octet :=
  [oct (bit s.press.inhibit + 2 * bit s.straps.pressEnable), octNum (s.permitOutput 0), octNum (s.permitOutput 1),
    oct s.press.queue.length] ++ stepOctets s.press.queue ++ [oct start, oct n]

def serveReadOutputs (start count : Nat) (s : State) : State × Reply :=
  if Config.outputs ≤ start then (s, refusal .badParam)
  else
    let n := readCount 16 Config.outputs 13 start count
    (s, okWith (s.outputsHeader start n ++ (List.range' start n).flatMap (fun o => (s.output o).octets)))

/-- READ_OUTPUTS (R145). -/
def execReadOutputs (tag : Octet) (start count : Nat) (s : State) : Host.Outcome State Fault Refusal :=
  happens (s.request (.readOutputs tag start count) (serveReadOutputs start count))

/-! ### CLEAR-LATCH for an output (R143) -/

/-- The readback does not hold the fault: there is none, or it is at its released sense (R143). -/
def State.faultGone (s : State) (o : Nat) : Bool :=
  match (s.output o).readback with
  | none => true
  | some c =>
    match s.accepted c with
    | none => false
    | some l => l ≠ (s.output o).sense

/-- The effect of clearing a FAULTED output (R143). -/
def State.clearOutput (s : State) (o : Nat) : State :=
  (s.setOutput o { (s.output o).toIdle with fault := none }).handOutput ⟨o, .idle, .cleared, s.time⟩

def serveClearLatchOutput (o : Nat) (s : State) : State × Reply :=
  if Config.outputs ≤ o then (s, refusal .badParam)
  else if (s.output o).defined = false then (s, refusal .notDefined)
  else if (s.output o).state ≠ .faulted then (s, okWith [])
  else if s.faultGone o then (s.clearOutput o, okWith [])
  else (s, refusal .stillActive)

/-- CLEAR_LATCH_OUTPUT (R143). -/
def execClearLatchOutput (tag : Octet) (number : Nat) (s : State) : Host.Outcome State Fault Refusal :=
  happens (s.request (.clearLatchOutput tag number) (serveClearLatchOutput number))

end Sys2Proof.Machine
end

