-- ==== Sys2Proof/Machine/Saving.lean ====
section
/-! DEFINITION. The configuration store (chapter 10): SAVE, its two events, STORE-STATUS and RESTART. -/

namespace Sys2Proof.Machine

/-! ### SAVE (R174) -/

/-- An object as the image stores it (R172, R174). -/
def ObjectRecord.stored (o : ObjectRecord) : Option StoredObject :=
  match o.service, o.definition with
  | .inService, some d => some ⟨d, true⟩
  | .outOfService, some d => some ⟨d, false⟩
  | _, _ => none

/-- An output as the image stores it (R172, R174). -/
def OutputRecord.stored (r : OutputRecord) : Option StoredOutput :=
  if r.defined then some ⟨r.pulse, r.readback, r.sense⟩ else none

/-- The snapshot: the contents of R172 as the owners hold them (R174). -/
def State.snapshot (s : State) : ImageContents where
  period := s.scanner.period
  tolerance := s.scanner.tolerance
  map := s.scanner.modules.map (fun m => ⟨m.slot, m.size, m.last⟩)
  profiles := s.filter.profiles
  assignments := s.filter.contacts.map (·.profile)
  flashProfiles := s.flash
  objects := s.table.objects.map (·.stored)
  outputs := s.press.outputs.map (·.stored)

/-- A save begins: BUSY, image invalid, the checksum erased, writing since now (R174, R175). -/
def State.beginSave (s : State) : State :=
  s.setStore ⟨.busy, .erased, false, some ⟨s.snapshot, .writing s.time⟩⟩

def serveSave (s : State) : State × Reply := if s.busy then (s, refusal .busy) else (s.beginSave, okWith [])

/-- SAVE (R174). -/
def execSave (tag : Octet) (s : State) : Host.Outcome State Fault Refusal := happens (s.request (.save tag) serveSave)

/-! ### The events of a save (R175) -/

/-- Writing ends: the memory holds the snapshot with its checksum, or what the command says it holds, and read-back
begins (R175, assumption 12). -/
def State.endWriting (s : State) (p : SaveProgress) (memory : Option StoredImage) : State :=
  s.setStore { s.store with image := memory.getD (.intact p.snapshot), save := some ⟨p.snapshot, .readBack s.time⟩ }

/-- SAVE_WRITING_END (R175): it has no effect where no save is writing (assumption 4). -/
def execSaveWritingEnd (memory : Option StoredImage) (s : State) : Host.Outcome State Fault Refusal :=
  happens
    (match s.store.save with
      | some ⟨c, .writing t⟩ => s.endWriting ⟨c, .writing t⟩ memory
      | _ => s)

/-- The whole image read back equals the snapshot, contents and checksum (R175). -/
def StoredImage.equals (i : StoredImage) (c : ImageContents) : Bool :=
  match i with
  | .neverWritten => false
  | .erased => false
  | .intact d => d = c
  | .other d k => d = c && k = imageCheck c

/-- The comparison ends: LAST-OK with a valid image, or the checksum erased again and LAST-FAILED (R175). -/
def State.completeSave (s : State) (snapshot : ImageContents) : State :=
  if s.store.image.equals snapshot then s.setStore ⟨.lastOk, s.store.image, true, none⟩
  else s.setStore ⟨.lastFailed, .erased, false, none⟩

/-- SAVE_COMPLETION (R175): it has no effect where no save is reading back (assumption 4). -/
def execSaveCompletion (s : State) : Host.Outcome State Fault Refusal :=
  happens
    (match s.store.save with
      | some ⟨c, .readBack _⟩ => s.completeSave c
      | _ => s)

/-! ### STORE-STATUS (R173) -/

def serveStoreStatus (s : State) : State × Reply :=
  (s, okWith [oct s.store.state.code, oct (bit s.store.imageValid)])

/-- STORE_STATUS (R173). -/
def execStoreStatus (tag : Octet) (s : State) : Host.Outcome State Fault Refusal :=
  happens (s.request (.storeStatus tag) serveStoreStatus)

/-! ### RESTART (R178) -/

/-- A RESTART is accepted: it takes effect when its reply has been sent (R162, R178). -/
def State.beginRestart (s : State) : State := s.setLink { s.link with restarting := true }

def serveRestart (s : State) : State × Reply := if s.busy then (s, refusal .busy) else (s.beginRestart, okWith [])

/-- RESTART (R178). -/
def execRestart (tag : Octet) (s : State) : Host.Outcome State Fault Refusal :=
  happens (s.request (.restart tag) serveRestart)

end Sys2Proof.Machine
end

