-- ==== Sys2Proof/Machine/Scanning.lean ====
section
/-! DEFINITION. Scans (chapter 1): SCAN_START and SCAN_COMPLETION, and the requests of the module scanner. -/

namespace Sys2Proof.Machine

/-! ### Scans -/

/-- A scan starts: its sample time is now, it reads every mapped module that is not OUT-OF-SERVICE, and the next scan
starts one period later (R6, R8). -/
def State.startScan (s : State) : State :=
  s.setScanner { s.scanner with
    scan := some ⟨s.time, scanSlots s.scanner.modules, []⟩
    nextScan := some (s.time + s.scanner.period) }

/-- SCAN_START (R6): when the period has elapsed and no scan is in progress. -/
def execScanStart (s : State) : Host.Outcome State Fault Refusal :=
  happens (if s.scanner.scan = none then s.event s.scanner.nextScan (fun _ t => t.startScan) else s)

/-- In ACQUIRING a completion adds 1 to the acquisition scan count, up to its limit (R17). -/
def Scanner.countScan (x : Scanner) : Nat :=
  match x.part with
  | .acquiring => min (x.acquisition + 1) Config.acquisitionLimit
  | .unconfigured => x.acquisition
  | .running => x.acquisition

/-- The scanner after a completion: results applied, the scan over, its sample time the last completed one (R2, R8). -/
def Scanner.afterScan (x : Scanner) (scan : Scan) (outcomes : List ModuleOutcome) : Scanner :=
  { x with
    acquisition := x.countScan
    modules := outcomes.map (·.record)
    scan := none
    lastSample := some scan.sampleTime }

/-- A scan completes: the module results are applied and their items handed over in ascending slot order, then the
contacts are filtered and the batch goes to the resolver and the press unit, then the part state is judged (R8, R17,
R26 to R35). -/
def State.completeScan (s : State) (scan : Scan) (reads : List ModuleRead) : State :=
  let outcomes := s.scanner.modules.map (completeModule s.scanner.tolerance scan reads)
  let filtered := s.filterContacts scan.sampleTime outcomes
  let entries := batchEntries scan.sampleTime 0 s.filter.contacts filtered
  let applied := (s.setScanner (s.scanner.afterScan scan outcomes)).handModules (outcomes.filterMap (·.item))
  ((applied.setContacts (filtered.map (·.1))).applyBatch entries).judgeAcquisition scan.sampleTime

/-- SCAN_COMPLETION (R8): it has no effect when no scan is in progress (assumption 4). -/
def execScanCompletion (reads : List ModuleRead) (s : State) : Host.Outcome State Fault Refusal :=
  happens
    (match s.scanner.scan with
      | none => s
      | some scan => s.finish (s.completeScan scan reads))

/-! ### SET-SCAN (R7) -/

/-- An IN-SERVICE module's fault counter is brought down to the new T (R7). -/
def ModuleRecord.lowerCounter (t : Nat) (m : ModuleRecord) : ModuleRecord :=
  if m.state = .inService then { m with faultCounter := min m.faultCounter t } else m

def serveSetScan (period tolerance : Nat) (s : State) : State × Reply :=
  if s.busy then (s, refusal .busy)
  else
    (s.setScanner { s.scanner with
        period := clampPeriod period
        tolerance := clampTolerance tolerance
        modules := s.scanner.modules.map (ModuleRecord.lowerCounter (clampTolerance tolerance)) },
      okWith [oct (clampPeriod period), oct (clampTolerance tolerance)])

/-- SET_SCAN (R7). -/
def execSetScan (tag : Octet) (period tolerance : Nat) (s : State) : Host.Outcome State Fault Refusal :=
  happens (s.request (.setScan tag period tolerance) (serveSetScan period tolerance))

/-! ### DEFINE-MODULES (R4, R5) -/

/-- An object is IN-SERVICE or a press slot is not FREE (R4). -/
def State.inUse (s : State) : Bool :=
  s.table.objects.any (·.service = .inService) || s.press.slots.any (!·.isFree)

/-- The start of the next scan after an accepted DEFINE-MODULES: scans stay on their period; the first scan after
UNCONFIGURED starts at once; in UNCONFIGURED none starts (R6). -/
def nextScanAfter (x : Scanner) (map : List ModuleEntry) (now : Stamp) : Option Stamp :=
  if map.isEmpty then none
  else
    match x.part with
    | .unconfigured => some now
    | .acquiring => x.nextScan
    | .running => x.nextScan

/-- The scanner under a new map (R5). -/
def Scanner.redefined (x : Scanner) (map : List ModuleEntry) (now : Stamp) : Scanner :=
  { x with
    part := if map.isEmpty then .unconfigured else .acquiring
    acquisition := 0
    modules := map.map (ModuleEntry.start x.tolerance)
    scan := none
    nextScan := nextScanAfter x map now }

def serveDefineModules (entries : List ModuleEntryField) (s : State) : State × Reply :=
  if s.busy then (s, refusal .busy)
  else if s.inUse then (s, refusal .badState)
  else
    match readMap entries with
    | none => (s, refusal .badParam)
    | some map =>
      ((s.setScanner (s.scanner.redefined map s.time)).setContacts (s.filter.contacts.map (fun c => .fresh c.profile)),
        okWith [])

/-- DEFINE_MODULES (R4). -/
def execDefineModules (tag : Octet) (entries : List ModuleEntryField) (s : State) :
    Host.Outcome State Fault Refusal :=
  happens (s.request (.defineModules tag entries) (serveDefineModules entries))

/-! ### MODULE-SERVICE (R13, R14) -/

/-- MODULE-SERVICE was accepted for the slot: a scan in progress discards its result (R8). -/
def Scanner.discard (x : Scanner) (slot : Nat) : Scanner :=
  { x with scan := x.scan.map (fun c => { c with discarded := slot :: c.discarded }) }

def Scanner.setModule (x : Scanner) (slot : Nat) (f : ModuleRecord → ModuleRecord) : Scanner :=
  { x with modules := updateModule x.modules slot f }

/-- A module taken out of service (R13). -/
def ModuleRecord.takenOut (m : ModuleRecord) : ModuleRecord :=
  { m with state := .outOfService, suspect := false, faultCounter := 0, recovery := 0 }

/-- A module put back into service (R14). -/
def ModuleRecord.putBack (m : ModuleRecord) : ModuleRecord :=
  { m with state := .recovering, recovery := 0, origin := .fresh }

/-- The effect of MODULE-SERVICE out: the item first, then the batch of the contacts that lose their level (R13). -/
def State.takeModuleOut (s : State) (slot : Nat) : State :=
  let t := (s.setScanner ((s.scanner.setModule slot .takenOut).discard slot)).handModule
    ⟨slot, .outOfService, none, s.time⟩
  let contacts := loseSlot s.scanner.modules slot s.filter.contacts
  (t.setContacts contacts).applyBatch (requestBatch s.time s.filter.contacts contacts)

def serveModuleServiceOut (slot : Nat) (s : State) : State × Reply :=
  if s.busy then (s, refusal .busy)
  else if Config.moduleSlots ≤ slot then (s, refusal .badParam)
  else
    match findModule s.scanner.modules slot with
    | none => (s, refusal .notDefined)
    | some m => if m.state = .outOfService then (s, refusal .badState) else (s.takeModuleOut slot, okWith [])

/-- MODULE_SERVICE_OUT (R13). -/
def execModuleServiceOut (tag : Octet) (slot : Nat) (s : State) : Host.Outcome State Fault Refusal :=
  happens (s.request (.moduleServiceOut tag slot) (serveModuleServiceOut slot))

/-- The effect of MODULE-SERVICE in (R14). -/
def State.putModuleBack (s : State) (slot : Nat) : State :=
  (s.setScanner ((s.scanner.setModule slot .putBack).discard slot)).handModule ⟨slot, .recovering, none, s.time⟩

def serveModuleServiceIn (slot : Nat) (s : State) : State × Reply :=
  if s.busy then (s, refusal .busy)
  else if Config.moduleSlots ≤ slot then (s, refusal .badParam)
  else
    match findModule s.scanner.modules slot with
    | none => (s, refusal .notDefined)
    | some m => if m.state = .outOfService then (s.putModuleBack slot, okWith []) else (s, refusal .badState)

/-- MODULE_SERVICE_IN (R14). -/
def execModuleServiceIn (tag : Octet) (slot : Nat) (s : State) : Host.Outcome State Fault Refusal :=
  happens (s.request (.moduleServiceIn tag slot) (serveModuleServiceIn slot))

/-! ### READ-MODULES (R18) -/

/-- The 14 octets of a module (R169). -/
def ModuleRecord.octets (m : ModuleRecord) : List Octet :=
  [oct m.slot, oct m.size] ++ oct2 m.last
    ++ [oct m.state.code, oct m.faultCounter, oct (bit m.suspect + 2 * m.recovery + 32 * m.origin.code),
      oct (causeCode (m.latch.map (·.cause)))]
    ++ octStamp (m.latch.map (·.stamp))

/-- The header of READ-MODULES; `n` entries are returned (R169). -/
def Scanner.header (x : Scanner) (n : Nat) : List Octet :=
  [oct x.part.code, oct x.period, oct x.tolerance, oct x.acquisition, oct x.modules.length, oct n]

def serveReadModules (start count : Nat) (s : State) : State × Reply :=
  if Config.moduleSlots ≤ start then (s, refusal .badParam)
  else
    let n := readCount 16 s.scanner.modules.length 13 start count
    (s, okWith (s.scanner.header n ++ ((s.scanner.modules.drop start).take n).flatMap ModuleRecord.octets))

/-- READ_MODULES (R18). -/
def execReadModules (tag : Octet) (start count : Nat) (s : State) : Host.Outcome State Fault Refusal :=
  happens (s.request (.readModules tag start count) (serveReadModules start count))

/-! ### CLEAR-LATCH for a module (R15) -/

/-- A module's latch is emptied. -/
def ModuleRecord.unlatched (m : ModuleRecord) : ModuleRecord := { m with latch := none }

def serveClearLatchModule (slot : Nat) (s : State) : State × Reply :=
  if Config.moduleSlots ≤ slot then (s, refusal .badParam)
  else
    match findModule s.scanner.modules slot with
    | none => (s, refusal .notDefined)
    | some m =>
      if m.state = .failed then (s, refusal .stillActive)
      else (s.setScanner (s.scanner.setModule slot .unlatched), okWith [])

/-- CLEAR_LATCH_MODULE (R15). -/
def execClearLatchModule (tag : Octet) (slot : Nat) (s : State) : Host.Outcome State Fault Refusal :=
  happens (s.request (.clearLatchModule tag slot) (serveClearLatchModule slot))

end Sys2Proof.Machine
end

