-- ==== Sys2Proof/Machine/Receiving.lean ====
section
/-! DEFINITION. The events of the desk link's line (chapter 8): octets and the frames they make, frames discarded,
dropped, unknown or echoed, and a frame sent. -/

namespace Sys2Proof.Machine

/-! ### Which owner serves a request (8.3) -/

/-- The owner of a request serves it; a command that is no request has no owner. -/
def serveRequest (i : Instr) (s : State) : State × Reply :=
  match i with
  | .identify _ => serveIdentify s
  | .readTime _ => serveReadTime s
  | .setMode _ m => serveSetMode m s
  | .flow _ h => serveFlow h s
  | .fetch _ x c => serveFetch x c s
  | .sync _ => serveSync s
  | .setScan _ p t => serveSetScan p t s
  | .defineModules _ es => serveDefineModules es s
  | .moduleServiceOut _ k => serveModuleServiceOut k s
  | .moduleServiceIn _ k => serveModuleServiceIn k s
  | .readModules _ a c => serveReadModules a c s
  | .defineProfile _ p k h l f => serveDefineProfile p k h l f s
  | .assignProfile _ a b p => serveAssignProfile a b p s
  | .defineFlash _ p a b c d f v => serveDefineFlash p a b c d f v s
  | .readContacts _ a c => serveReadContacts a c s
  | .defineObject _ n k u t rs => serveDefineObject n k u t rs s
  | .removeObject _ n => serveRemoveObject n s
  | .objectServiceIn _ n => serveObjectServiceIn n s
  | .objectServiceOut _ n => serveObjectServiceOut n s
  | .readDefinition _ n => serveReadDefinition n s
  | .readObjects _ a c => serveReadObjects a c s
  | .check _ cs => serveCheck cs s
  | .clearLatchObject _ n => serveClearLatchObject n s
  | .clearLatchModule _ n => serveClearLatchModule n s
  | .clearLatchOutput _ n => serveClearLatchOutput n s
  | .defineOutput _ o d p r v => serveDefineOutput o d p r v s
  | .press _ g st gap w cs => servePress g st gap w cs s
  | .pressStatus _ k => servePressStatus k s
  | .pressAbort _ k => servePressAbort k s
  | .pressInhibitOn _ => servePressInhibitOn s
  | .pressInhibitOff _ => servePressInhibitOff s
  | .readOutputs _ a c => serveReadOutputs a c s
  | .save _ => serveSave s
  | .storeStatus _ => serveStoreStatus s
  | .restart _ => serveRestart s
  | _ => (s, refusal .unknownKind)

/-- What a valid frame is answered: its owner's answer; BAD-PARAM for a body that does not fit its layout, before every
other check (R151); BAD-PARAM for a code that belongs to no row, after BUSY where its owner looks for BUSY first (R170,
R176); UNKNOWN-KIND for a KIND that names no request (R152). -/
def serveDecoded (d : Decoded) (s : State) : State × Reply :=
  match d with
  | .request i => serveRequest i s
  | .badLength => (s, refusal .badParam)
  | .badCode busyFirst => (s, refusal (if busyFirst ∧ s.busy then .busy else .badParam))
  | .notARequest => (s, refusal .unknownKind)

/-- A valid frame from the receiver (R151). -/
def State.handFrame (s : State) (f : Frame) : State := s.takeFrame f (serveDecoded (decodeRequest f))

/-! ### The receiver (R148 to R150) -/

/-- An octet examined in HUNTING: FRAME-START begins a frame, any other is passed over (R148). -/
def hunt (now : Stamp) (o : Octet) : Receiver := if o = frameStart then .collecting now none [] none else .hunting

/-- The frame whose octets from KIND on are these. -/
def frameOf : List Octet → Option Frame
  | k :: t :: body => some ⟨k, t, body⟩
  | _ => none

/-- The frame is valid: its check agrees over LEN to the end of BODY (R148, R150). -/
def validFrame (len : Octet) (taken : List Octet) (high low : Octet) : Option Frame :=
  if crc (len :: taken) = high ++ low then frameOf taken else none

/-- An octet of a frame in COLLECTING that is in time: LEN, then LEN octets, then the two of the check (R148). -/
def collect (now : Stamp) (len : Option Octet) (taken : List Octet) (high : Option Octet) (o : Octet) :
    Receiver × Option Frame :=
  match len with
  | none => if 2 ≤ o.toNat ∧ o.toNat ≤ 200 then (.collecting now (some o) [] none, none) else (.hunting, none)
  | some n =>
    if taken.length < n.toNat then (.collecting now (some n) (taken ++ [o]) none, none)
    else
      match high with
      | none => (.collecting now (some n) taken (some o), none)
      | some h => (.hunting, validFrame n taken h o)

/-- An octet has come more than 10 ms after the previous one (R149). -/
def gapExceeded (last now : Stamp) : Bool := last + Config.octetGap < now

/-- One octet at the receiver, with the valid frame it completes, if it does (R148, R149). -/
def receiveOctet (now : Stamp) (r : Receiver) (o : Octet) : Receiver × Option Frame :=
  match r with
  | .hunting => (hunt now o, none)
  | .collecting last len taken high =>
    if gapExceeded last now then (hunt now o, none) else collect now len taken high o

def State.setReceiver (s : State) (r : Receiver) : State := s.setLink { s.link with receiver := r }

/-- A valid frame, if the octet completed one, is handed on. -/
def State.handReceived (s : State) (x : Receiver × Option Frame) : State :=
  match x.2 with
  | none => s.setReceiver x.1
  | some f => (s.setReceiver x.1).handFrame f

/-- OCTET_RECEIVED (R148): until the load completes octets are not examined (R161). -/
def execOctetReceived (octet : Octet) (s : State) : Host.Outcome State Fault Refusal :=
  happens
    (if s.power = .operating then s.handReceived (receiveOctet s.time s.link.receiver octet) else s)

/-! ### Frames discarded, dropped, unknown, echoed -/

/-- The receiver after a discard, where the cause can arise from its state: awaiting LEN, at the last check octet,
collecting after the gap, or collecting (R148, R149). -/
def discardFrame (now : Stamp) (r : Receiver) (cause : DiscardCause) : Receiver :=
  match r, cause with
  | .collecting last none _ _, .badLen => if gapExceeded last now then r else .hunting
  | .collecting last (some _) _ (some _), .badCheck => if gapExceeded last now then r else .hunting
  | .collecting last _ _ _, .gap late => if gapExceeded last now then hunt now late else r
  | .collecting _ _ _ _, .framingError => .hunting
  | r, _ => r

/-- FRAME_DISCARDED (R148): it has no effect where its cause cannot arise (assumption 4). -/
def execFrameDiscarded (cause : DiscardCause) (s : State) : Host.Outcome State Fault Refusal :=
  happens (s.setReceiver (discardFrame s.time s.link.receiver cause))

/-- REQUEST_DROPPED (R151): a valid frame, given whole (assumption 33), finds four frames waiting; it has no effect where the
queue has room (assumption 4). -/
def execRequestDropped (_frame : Frame) (s : State) : Host.Outcome State Fault Refusal :=
  happens (if s.takesFrames ∧ s.repliesFull then s.dropRequest else s)

/-- UNKNOWN_KIND (R152): a valid frame whose KIND names no request, given whole (assumption 33); a frame of another KIND is
not this event (assumption 4). -/
def execUnknownKind (frame : Frame) (s : State) : Host.Outcome State Fault Refusal :=
  happens
    (if frame.kind ∈ requestKinds then s else s.takeFrame frame (fun t => (t, refusal .unknownKind)))

/-- ECHO_FRAME (R159): a valid frame other than SET-MODE in ECHO mode, given whole (assumption 33); in another mode it is not
this event (assumption 4). -/
def execEchoFrame (frame : Frame) (s : State) : Host.Outcome State Fault Refusal :=
  happens
    (if s.link.mode = .echo ∧ frame.kind ≠ kindSetMode then s.takeFrame frame (fun t => (t, refusal .unknownKind))
      else s)

/-! ### A frame sent -/

/-- The last octet of the frame on the line is sent: after an accepted RESTART the last waiting reply was the RESTART's
own, and the reinitialisation takes effect (R162, R178); otherwise the arbiter chooses (R155). -/
def State.frameSent (s : State) : State :=
  let t := s.setSending none
  if s.link.restarting ∧ s.link.replies.isEmpty then t.reinitialise else t.chooseFrame

/-- FRAME_SENT (R155): it has no effect where no frame is being sent (assumption 4). -/
def execFrameSent (s : State) : Host.Outcome State Fault Refusal :=
  happens (if s.link.sending.isSome then s.frameSent else s)

end Sys2Proof.Machine
end

