-- ==== Sys2Proof/Machine/Timed.lean ====
section
/-! DEFINITION. The events that fall due by box time: object timers, pulse ends, release windows, gaps and watches. An
event that is not running has no effect (assumption 4). -/

namespace Sys2Proof.Machine

/-- OBJECT_TIMER_EXPIRY (R78). -/
def execObjectTimerExpiry (object : Nat) (s : State) : Host.Outcome State Fault Refusal :=
  happens (s.event (s.object object).timer (fun d t => t.expireTimer object d))

/-- The running pulse end of an output (R128). -/
def State.pulseDue (s : State) (o : Nat) : Option Stamp := if (s.output o).state = .driven then (s.output o).pulseEnd else none

/-- PULSE_END (R128, R129). -/
def execPulseEnd (output : Nat) (s : State) : Host.Outcome State Fault Refusal :=
  happens (s.event (s.pulseDue output) (fun d t => t.endPulse output d))

/-- The running window end of an output (R131). -/
def State.windowDue (s : State) (o : Nat) : Option Stamp :=
  if (s.output o).state = .releasing then (s.output o).windowEnd else none

/-- WINDOW_EXPIRY (R131). -/
def execWindowExpiry (output : Nat) (s : State) : Host.Outcome State Fault Refusal :=
  happens (s.event (s.windowDue output) (fun d t => t.endWindow output d))

/-- The gap of slot k has passed: its next step becomes due (R133). -/
def State.endGap (s : State) (k : Nat) : State :=
  match s.slot k with
  | .gap op _ => s.stepDue k { op with step := op.step + 1 }
  | _ => s

/-- The running gap expiry of a slot (R133). -/
def Slot.gapExpiry : Slot → Option Stamp
  | .gap _ e => some e
  | _ => none

/-- GAP_EXPIRY (R133). -/
def execGapExpiry (slot : Nat) (s : State) : Host.Outcome State Fault Refusal :=
  happens (s.event (s.slot slot).gapExpiry (fun _ t => t.endGap slot))

/-- The running watch expiry of a slot (R136). -/
def Slot.watchExpiry : Slot → Option Stamp
  | .watching _ e => some e
  | _ => none

/-- WATCH_EXPIRY (R136). -/
def execWatchExpiry (slot : Nat) (s : State) : Host.Outcome State Fault Refusal :=
  happens (s.event (s.slot slot).watchExpiry (fun d t => t.endOperation slot (endReport .timedOut d)))

end Sys2Proof.Machine
end

