-- ==== Sys2Proof/Machine/Dispatch.lean ====
section
/-! DEFINITION. One arm per command. -/

namespace Sys2Proof.Machine

/-- The effect of a command on everything but the queue. -/
def exec (i : Instr) (s : State) : Host.Outcome State Fault Refusal :=
  match i with
  | .powerOn straps => Sys2Proof.Machine.execPowerOn straps s
  | .powerLoss => Sys2Proof.Machine.execPowerLoss s
  | .startUpLoadComplete => Sys2Proof.Machine.execStartUpLoadComplete s
  | .scanStart => Sys2Proof.Machine.execScanStart s
  | .scanCompletion reads => Sys2Proof.Machine.execScanCompletion reads s
  | .objectTimerExpiry object => Sys2Proof.Machine.execObjectTimerExpiry object s
  | .pulseEnd output => Sys2Proof.Machine.execPulseEnd output s
  | .windowExpiry output => Sys2Proof.Machine.execWindowExpiry output s
  | .gapExpiry slot => Sys2Proof.Machine.execGapExpiry slot s
  | .watchExpiry slot => Sys2Proof.Machine.execWatchExpiry slot s
  | .saveWritingEnd memory => Sys2Proof.Machine.execSaveWritingEnd memory s
  | .saveCompletion => Sys2Proof.Machine.execSaveCompletion s
  | .frameDiscarded cause => Sys2Proof.Machine.execFrameDiscarded cause s
  | .requestDropped frame => Sys2Proof.Machine.execRequestDropped frame s
  | .unknownKind frame => Sys2Proof.Machine.execUnknownKind frame s
  | .echoFrame frame => Sys2Proof.Machine.execEchoFrame frame s
  | .frameSent => Sys2Proof.Machine.execFrameSent s
  | .identify tag => Sys2Proof.Machine.execIdentify tag s
  | .readTime tag => Sys2Proof.Machine.execReadTime tag s
  | .setMode tag mode => Sys2Proof.Machine.execSetMode tag mode s
  | .flow tag hold => Sys2Proof.Machine.execFlow tag hold s
  | .fetch tag selection count => Sys2Proof.Machine.execFetch tag selection count s
  | .sync tag => Sys2Proof.Machine.execSync tag s
  | .setScan tag period tolerance => Sys2Proof.Machine.execSetScan tag period tolerance s
  | .defineModules tag entries => Sys2Proof.Machine.execDefineModules tag entries s
  | .moduleServiceOut tag slot => Sys2Proof.Machine.execModuleServiceOut tag slot s
  | .moduleServiceIn tag slot => Sys2Proof.Machine.execModuleServiceIn tag slot s
  | .readModules tag start count => Sys2Proof.Machine.execReadModules tag start count s
  | .defineProfile tag profile k h l flash => Sys2Proof.Machine.execDefineProfile tag profile k h l flash s
  | .assignProfile tag first last profile => Sys2Proof.Machine.execAssignProfile tag first last profile s
  | .defineFlash tag profile a b c d f v => Sys2Proof.Machine.execDefineFlash tag profile a b c d f v s
  | .readContacts tag start count => Sys2Proof.Machine.execReadContacts tag start count s
  | .defineObject tag object kind urgency timing refs => Sys2Proof.Machine.execDefineObject tag object kind urgency timing refs s
  | .removeObject tag object => Sys2Proof.Machine.execRemoveObject tag object s
  | .objectServiceIn tag object => Sys2Proof.Machine.execObjectServiceIn tag object s
  | .objectServiceOut tag object => Sys2Proof.Machine.execObjectServiceOut tag object s
  | .readDefinition tag object => Sys2Proof.Machine.execReadDefinition tag object s
  | .readObjects tag start count => Sys2Proof.Machine.execReadObjects tag start count s
  | .check tag items => Sys2Proof.Machine.execCheck tag items s
  | .clearLatchObject tag number => Sys2Proof.Machine.execClearLatchObject tag number s
  | .clearLatchModule tag number => Sys2Proof.Machine.execClearLatchModule tag number s
  | .clearLatchOutput tag number => Sys2Proof.Machine.execClearLatchOutput tag number s
  | .defineOutput tag output defined pulse readback sense => Sys2Proof.Machine.execDefineOutput tag output defined pulse readback sense s
  | .press tag deskTag steps gap watch items => Sys2Proof.Machine.execPress tag deskTag steps gap watch items s
  | .pressStatus tag slot => Sys2Proof.Machine.execPressStatus tag slot s
  | .pressAbort tag slot => Sys2Proof.Machine.execPressAbort tag slot s
  | .pressInhibitOn tag => Sys2Proof.Machine.execPressInhibitOn tag s
  | .pressInhibitOff tag => Sys2Proof.Machine.execPressInhibitOff tag s
  | .readOutputs tag start count => Sys2Proof.Machine.execReadOutputs tag start count s
  | .save tag => Sys2Proof.Machine.execSave tag s
  | .storeStatus tag => Sys2Proof.Machine.execStoreStatus tag s
  | .restart tag => Sys2Proof.Machine.execRestart tag s
  | .octetReceived octet => Sys2Proof.Machine.execOctetReceived octet s

end Sys2Proof.Machine
end

