-- ==== Sys2Proof/Machine/Due.lean ====
section
/-! DEFINITION. What is due by box time when no command waits: the events the part brings about itself, in the order the
idle step takes them, and what must still come from outside (assumptions 1 and 3). -/

namespace Sys2Proof.Machine

/-- An expiry has been reached. -/
def reached (now : Stamp) : Option Stamp → Bool
  | some e => e ≤ now
  | none => false

/-- The load has reached its bound (R177). -/
def State.loadDue (s : State) : Option Instr :=
  if reached s.time s.power.bound then some .startUpLoadComplete else none

/-- The lowest object whose timer has been reached (R78). -/
def State.objectDue (s : State) : Option Instr :=
  (s.table.objects.findIdx? (fun o => reached s.time o.timer)).map .objectTimerExpiry

/-- The lowest output whose pulse end has been reached (R128). -/
def State.pulseReached (s : State) : Option Instr :=
  (s.press.outputs.findIdx? (fun r => r.state = .driven && reached s.time r.pulseEnd)).map .pulseEnd

/-- The lowest output whose window end has been reached (R131). -/
def State.windowReached (s : State) : Option Instr :=
  (s.press.outputs.findIdx? (fun r => r.state = .releasing && reached s.time r.windowEnd)).map .windowExpiry

/-- The event of a slot whose gap or watch expiry has been reached (R133, R136). -/
def slotEvent (now : Stamp) (k : Nat) : Slot → Option Instr
  | .gap _ e => if e ≤ now then some (.gapExpiry k) else none
  | .watching _ e => if e ≤ now then some (.watchExpiry k) else none
  | _ => none

/-- The event of the lowest slot whose expiry has been reached. -/
def State.slotDue (s : State) : Option Instr :=
  (List.range Config.pressSlots).findSome? (fun k => slotEvent s.time k (s.slot k))

/-- The read-back comparison has reached its bound (R175). -/
def State.saveDue (s : State) : Option Instr :=
  match s.store.save with
  | some ⟨_, .readBack t⟩ => if t + Config.compareTime ≤ s.time then some .saveCompletion else none
  | _ => none

/-- The next scan start has been reached (R6). -/
def State.scanDue (s : State) : Option Instr :=
  if s.scanner.scan = none ∧ reached s.time s.scanner.nextScan then some .scanStart else none

/-- The event the idle step takes, if one is due (assumption 3). -/
def State.nextDue (s : State) : Option Instr :=
  s.loadDue <|> s.objectDue <|> s.pulseReached <|> s.windowReached <|> s.slotDue <|> s.saveDue <|> s.scanDue

/-- A scan in progress must have completed by now (R8), and only the module bus can say with what. -/
def State.awaitsBus (s : State) : Bool := reached s.time s.scanner.scanBound

/-- Writing must have ended by now (R175), and only the memory can say with what. -/
def State.awaitsMemory (s : State) : Bool :=
  match s.store.save with
  | some ⟨_, .writing t⟩ => t + Config.writeTime ≤ s.time
  | _ => false

end Sys2Proof.Machine
end

