-- ==== Sys2Proof/Machine/Step.lean ====
section
/-! DEFINITION. One step: the command at the front of the queue, or, with no command waiting, an event that is due or one
millisecond of box time. -/

namespace Sys2Proof.Machine

def State.setPending (s : State) (cs : List Instr) : State := { s with pending := cs }

/-- Box time advances by one millisecond (R1), up to the last value it can hold (assumption 9). -/
def tick (s : State) : Host.Outcome State Fault Refusal :=
  if s.time < Config.lastBoxTime then .next (s.setTime (s.time + 1)) else .fault .boxTimeEnds

/-- The step on an empty queue: nothing without power; an event that is due; nothing while an answer from outside is
awaited; otherwise a tick (assumptions 1 and 3). -/
def idle (s : State) : Host.Outcome State Fault Refusal :=
  if s.power = .off then .next s
  else
    match s.nextDue with
    | some c => exec c s
    | none => if s.awaitsBus || s.awaitsMemory then .next s else tick s

/-- One step of the part. -/
def step (s : State) : Host.Outcome State Fault Refusal :=
  match s.pending with
  | [] => idle s
  | c :: rest => exec c (s.setPending rest)

/-- The command a word spells, if it spells one, is put at the front of the queue. -/
def State.withFetchWord (s : State) (nbits w : Nat) : State :=
  match decodeTableWord nbits w with
  | some c => s.setPending (c :: s.pending)
  | none => s

end Sys2Proof.Machine
end

