-- ==== Sys2Proof/Machine/Line.lean ====
section
/-! DEFINITION. The line of the desk link (R147): the bit rate the straps set, an octet as the levels of its ten bit times,
a frame as it leaves the part, and the command that ten sampled levels bring. -/

namespace Sys2Proof.Machine

/-- The bit rate in bit/s, by the two rate straps as sampled at power-on; `true` is closed (R147). -/
def Straps.bitRate (x : Straps) : Nat :=
  match x.rate1, x.rate0 with
  | false, false => 38400
  | false, true => 115200
  | true, false => 230400
  | true, true => 460800

/-- The level of a data bit: a 1 is sent at the stop level (assumption 31). -/
def dataLevel (b : Bool) : LineLevel := if b then .stop else .start

/-- The data bit of a level (assumption 31). -/
def levelBit : LineLevel → Nat
  | .start => 0
  | .stop => 1

/-- An octet on the line: one start bit, eight data bits with the least significant first, one stop bit (R147). -/
def lineOctet (o : Octet) : List LineLevel :=
  .start :: (List.range 8).map (fun i => dataLevel (o.getLsbD i)) ++ [.stop]

/-- A frame on the line: its octets back to back, with no idle time between them (R147). -/
def lineFrame (f : Frame) : List LineLevel := (frameOctets f).flatMap lineOctet

/-- The number eight data bits write, the first the least significant (R147). -/
def dataOctet (levels : List LineLevel) : Octet := oct (levels.foldr (fun l n => levelBit l + 2 * n) 0)

/-- What the receiver makes of the ten levels of an octet, sampled from its start bit on: an octet received when its stop
bit is sampled at the stop level, and a framing error when that is at the start level (R147). -/
def sampleOctet : List LineLevel → Option Instr
  | .start :: rest =>
    if rest.length = 9 then
      match rest.getLast? with
      | some .stop => some (.octetReceived (dataOctet (rest.take 8)))
      | some .start => some (.frameDiscarded .framingError)
      | none => none
    else none
  | _ => none

end Sys2Proof.Machine
end

