-- ==== Sys2Proof/Safety.lean ====
section
/-! DEFINITION. What must hold of the part in every state it reaches, and the words the statements are written in. -/

namespace Sys2Proof.Machine

/-! ### Bounds -/

/-- The URGENT lane never holds more than 32 records and the ROUTINE lane never more than 224 (R98). -/
def LanesBounded (s : State) : Prop := ∀ l, (s.lane l).length ≤ l.places

/-- The reply queue never holds more than 4 frames (R153). -/
def RepliesBounded (s : State) : Prop := s.link.replies.length ≤ Config.replyPlaces

/-- The part has the numbers of things 00_scope, section 8 gives it. -/
structure Shaped (s : State) : Prop where
  contacts : s.filter.contacts.length = Config.contacts
  profiles : s.filter.profiles.length = Config.contactProfiles
  flash : s.flash.length = Config.flashProfiles
  objects : s.table.objects.length = Config.objects
  outputs : s.press.outputs.length = Config.outputs
  slots : s.press.slots.length = Config.pressSlots
  permits : s.press.permits.length = Config.permits
  modulePending : s.journal.modulePending.length = Config.moduleSlots
  outputPending : s.journal.outputPending.length = Config.outputs

/-! ### Records -/

/-- A CHANGE or REFRESH record: one that reports an object (R99). -/
def Record.ofObject : Record → Bool
  | .change _ _ _ _ => true
  | .refresh _ _ _ => true
  | .module _ => false
  | .output _ => false
  | .pressEnd _ _ _ _ _ => false

/-- The records of a lane that report objects. -/
def State.objectRecords (s : State) (l : Lane) : List Record := (s.lane l).filter (·.ofObject)

/-- The journal has the MODULE item: as a record of the URGENT lane, or held (R101, R103). -/
def State.hasModuleItem (s : State) (i : ModuleItem) : Prop :=
  .module i ∈ s.lane .urgent ∨ s.journal.modulePending[i.slot]? = some (some i)

/-- The journal has the OUTPUT item: as a record of the URGENT lane, or held (R101, R104). -/
def State.hasOutputItem (s : State) (i : OutputItem) : Prop :=
  .output i ∈ s.lane .urgent ∨ s.journal.outputPending[i.output]? = some (some i)

/-- The end of slot k's operation has been handed over: as a record of the lane of its outcome with the slot FREE, or
held in the ENDED slot (R105, R138). -/
def State.hasPressEnd (s : State) (k tag : Nat) (rep : EndReport) : Prop :=
  (.pressEnd k tag rep.outcome rep.failing rep.stamp ∈ s.lane rep.outcome.lane ∧ s.slot k = .free (some rep)) ∨
    s.slot k = .ended tag rep

/-! ### The module map -/

/-- The entries are free of every fault of R4's third check. -/
def SoundMap (entries : List ModuleEntryField) : Prop :=
  entries.length ≤ 32 ∧
  (∀ e ∈ entries, e.slot ≤ 31 ∧ (e.size = 16 ∨ e.size = 32 ∨ e.size = 64) ∧ e.last ≤ 2047) ∧
  (∀ e, entries.head? = some e → e.last ≤ 63) ∧
  (∀ (n : Nat) (a b : ModuleEntryField), entries[n]? = some a → entries[n + 1]? = some b →
    a.slot < b.slot ∧ a.last < b.last ∧ b.last ≤ a.last + 64)

/-- The first contact of the range of the entry at a position of the map (R3). -/
def firstContact (ms : List ModuleRecord) : Nat → Nat
  | 0 => 0
  | n + 1 => match ms[n]? with | some m => m.last + 1 | none => 0

/-! ### Contacts -/

/-- What a change of the governing values from `old` to `new` makes of contact `c` (R24). -/
structure ProfileChanged (old new : ContactProfile) (c c' : Contact) : Prop where
  accepted : c'.accepted = c.accepted
  flashCleared : old.flash ≠ new.flash → c'.flash = ⟨.steady, none, none, 0, none, none⟩
  flashKept : old.flash = new.flash → c'.flash = c.flash
  chatterEnded : old.flash ≠ new.flash ∨ (old.limit ≠ 0 ∧ new.limit = 0) →
    c'.chatterCount = 0 ∧ c'.leakRef = none ∧ c'.chattering = false
  chatterKept : old.flash = new.flash → ¬ (old.limit ≠ 0 ∧ new.limit = 0) →
    c'.chatterCount = c.chatterCount ∧ c'.leakRef = c.leakRef ∧ c'.chattering = c.chattering
  candidateAbsent : c.candidate = none → c'.candidate = none
  candidateKept : ∀ k, c.candidate = some k → k.count < new.depth → c'.candidate = some k
  candidateCapped : ∀ k, c.candidate = some k → new.depth ≤ k.count →
    c'.candidate = if new.depth ≤ 1 then none else some { k with count := new.depth - 1 }

/-- A filter record within its bounds under a profile: the agreement count is below the filter depth (R27), the chatter
count is at most 15, and the leak reference is present exactly while that count is above 0 (2.2, R31). -/
structure ContactBounded (p : ContactProfile) (c : Contact) : Prop where
  agreement : ∀ k, c.candidate = some k → 0 < k.count ∧ k.count < p.depth
  chatter : c.chatterCount ≤ 15
  leak : c.leakRef.isSome = true ↔ c.chatterCount ≠ 0
  quiet : c.chattering = true → c.chatterCount ≠ 0

/-! ### Objects -/

/-- A reference as DEFINE-OBJECT carries it names this reference. -/
def ReferenceField.names (f : ReferenceField) (r : Reference) : Prop :=
  f.contact = r.contact ∧ f.role = r.role.code ∧ f.invert = (if r.inverted then 1 else 0) ∧ r.contact ≤ 2047

/-- A check item as CHECK and PRESS carry it names this item (R96, R97, R167). -/
structure CheckItemField.names (f : CheckItemField) (i : CheckItem) : Prop where
  object : i.object = f.object ∧ f.object ≤ 511
  code : f.code = i.code.code
  aspect : (f.aspect = 0xFF ∧ i.aspect = none) ∨ (f.aspect ≤ 3 ∧ i.aspect = some f.aspect)
  flashing : (f.flashing = 0 ∧ i.flashing = .steady) ∨ (f.flashing = 1 ∧ i.flashing = .flashing) ∨
    (f.flashing = 2 ∧ i.flashing = .either)

/-- The references fit the kind (R52, R57): 1 to 6, every role of the kind and given once, every required role there, no
contact twice. -/
structure SoundReferences (k : Kind) (rs : List Reference) : Prop where
  some : rs ≠ []
  few : rs.length ≤ 6
  roles : ∀ r ∈ rs, r.role ∈ k.required ∨ r.role ∈ k.optionalRoles
  once : (rs.map (·.role)).Nodup
  required : ∀ role ∈ k.required, role ∈ rs.map (·.role)
  contacts : (rs.map (·.contact)).Nodup

/-- The timing value taken for a kind (R54). -/
def timingTaken (k : Kind) (v : Nat) : Nat :=
  match k with
  | .track => min v 10000 / 10 * 10
  | .points => min (max v 1000) 30000 / 10 * 10
  | .signal => min v 5000 / 10 * 10
  | .indication => 0
  | .relay => min (max v 10) 2000 / 10 * 10

/-- The state codes in which an object of a kind may hold a running timer (R77). -/
def Kind.holds : Kind → StateCode → Prop
  | .track, c => c = .occupied
  | .points, c => c = .moving
  | .signal, c => c = .showing
  | .indication, _ => False
  | .relay, c => c = .up ∨ c = .down

/-- An object has a running timer only in service, in a state its kind holds under it (R77). -/
def TimersHold (s : State) : Prop :=
  ∀ n, (s.object n).timer ≠ none → (s.object n).service = .inService ∧
    ∃ d p, (s.object n).definition = some d ∧ (s.object n).presented = some p ∧ d.kind.holds p.code

/-- A defined object has a definition and a presented state, and LATCHED stands in a presented state exactly while the
latch is held (R51, R55). -/
def ObjectsWhole (s : State) : Prop :=
  ∀ n, ((s.object n).service ≠ .undefined → (s.object n).definition ≠ none ∧ (s.object n).presented ≠ none) ∧
    ∀ p, (s.object n).presented = some p → p.attrs.latched = (s.object n).latch.isSome

/-- The reverse index holds every reference of every object in service (R64). -/
def IndexWhole (s : State) : Prop :=
  ∀ n d, (s.object n).service = .inService → (s.object n).definition = some d →
    ∀ r ∈ d.refs, ⟨r.contact, n, d.kind.view, r.inverted⟩ ∈ s.table.index

/-- An object in service that references a contact whose level is UNKNOWN presents UNKNOWN (R75). -/
def UnknownPresented (s : State) : Prop :=
  ∀ n d p, (s.object n).service = .inService → (s.object n).definition = some d → (s.object n).presented = some p →
    ∀ r ∈ d.refs, s.accepted r.contact = none → p.code = .unknown

/-! ### Outputs -/

/-- While the press-enable strap is open: inhibit is on, no operation presses, no output has an owner, and no line is
closed (R121). -/
def LinesHeldOpen (s : State) : Prop :=
  s.straps.pressEnable = false →
    s.press.inhibit = true ∧ (∀ k, (s.slot k).isPressing = false) ∧
      ∀ o, (s.output o).owner = none ∧ s.lineClosed o = false

/-- The permit queue holds slots that wait (R125, R126). -/
def QueueWaits (s : State) : Prop := ∀ k ∈ s.press.queue, ∃ op, s.slot k = .waiting op

/-- The slots that wait work for other outputs than `o` (R120, R123). -/
def OthersWait (s : State) (o : Nat) : Prop :=
  ∀ k ∈ s.press.queue, ∀ op, (s.slot k).operation = some op → op.current ≠ some o

/-- The state of the output of a slot's current step (R125). -/
def Slot.drives : Slot → OutputState
  | .driving _ => .driven
  | .releasing _ => .releasing
  | _ => .claimed

/-- The press unit hangs together. Every output an operation presses with is owned by its slot and stands as the slot's
state says (R120, R125); a gap lies between two steps (R132); the permits are held by the slots that drive (R126); the
queue holds the slots that wait, each once, and none while a permit is free (R126); an output runs the timer of its state
(R118); and nothing presses on a part that does not operate (R146). -/
structure PressSound (s : State) : Prop where
  slots : s.press.slots.length = Config.pressSlots
  permits : s.press.permits.length = Config.permits
  resting : s.power ≠ .operating →
    (∀ k, (s.slot k).operation = none) ∧ s.press.queue = [] ∧ ∀ k, some k ∉ s.press.permits
  steps : ∀ k op, (s.slot k).operation = some op →
    op.steps.Nodup ∧ 1 ≤ op.step ∧ op.step ≤ op.steps.length ∧ ∀ o ∈ op.steps, o < s.press.outputs.length
  gaps : ∀ k op e, s.slot k = .gap op e → op.step < op.steps.length
  owned : ∀ o k, (s.output o).owner = some k ↔
    ∃ op, (s.slot k).operation = some op ∧ (s.slot k).isWatching = false ∧ o ∈ op.steps
  stands : ∀ o k op, (s.output o).owner = some k → (s.slot k).operation = some op →
    (s.output o).state = if op.current = some o then (s.slot k).drives else .claimed
  unowned : ∀ o, (s.output o).owner = none → (s.output o).state ≠ .claimed ∧ (s.output o).state ≠ .driven
  defined : ∀ o, (s.output o).defined = false → (s.output o).state = .idle
  pulses : ∀ o, (s.output o).state = .driven ↔ (s.output o).pulseEnd ≠ none
  windows : ∀ o, (s.output o).state = .releasing ↔ (s.output o).windowEnd ≠ none
  faults : ∀ o, (s.output o).state = .faulted ↔ (s.output o).fault ≠ none
  held : ∀ k, some k ∈ s.press.permits ↔ ∃ op, s.slot k = .driving op
  once : ∀ (p q k : Nat), s.press.permits[p]? = some (some k) → s.press.permits[q]? = some (some k) → p = q
  waiting : ∀ k, k ∈ s.press.queue ↔ ∃ op, s.slot k = .waiting op
  queued : s.press.queue.Nodup
  busy : s.press.queue ≠ [] → none ∉ s.press.permits

/-! ### Serving -/

/-- The part serves a request taken now: it takes frames, the reply queue has room, and the mode is not ECHO
(R151, R162). -/
def State.serves (s : State) : Prop := s.takesFrames = true ∧ s.repliesFull = false ∧ s.link.mode ≠ .echo

/-- What the link holds after a reply has joined its queue: a free transmitter takes the head at once, and forming the
summary has cleared the request-dropped flag (R153 to R155). -/
def Link.answered (l : Link) (reply : Frame) : Link :=
  if l.sending.isSome then { l with replies := l.replies ++ [reply], dropped := false }
  else { l with replies := (l.replies ++ [reply]).tail, sending := (l.replies ++ [reply]).head?, dropped := false }

/-- The reply of KIND `kind` to TAG `tag`, formed in `s`: result, status summary, fields (R152, R165). -/
def State.reply (s : State) (kind tag : Octet) (r : ResultCode) (fields : List Octet) : Frame :=
  ⟨kind, tag, oct r.code :: (s.summary ++ fields)⟩

/-- The part after a request that changed nothing but the link: its reply has joined the queue. -/
def State.afterReply (s : State) (kind tag : Octet) (r : ResultCode) (fields : List Octet) : State :=
  s.setLink (s.link.answered (s.reply kind tag r fields))

/-- Box time may stand at `d` when an event due then is taken: it is there already, or nothing is owed before `d`
(assumption 2). -/
def State.mayReach (s : State) (d : Stamp) : Prop :=
  d ≤ s.time ∨ (∀ e ∈ s.owed, d ≤ e) ∧ d ≤ Config.lastBoxTime

/-- The part at the time an event due at `d` is taken. -/
def State.at (s : State) (d : Stamp) : State := s.setTime (max s.time d)

/-! ### What is due -/

/-- An event that the part brings about itself is due: box time has reached it (R177, R78, R128, R131, R133, R136, R175,
R6). -/
def State.isDue (s : State) : Instr → Prop
  | .startUpLoadComplete => ∃ b, s.power = .loading b ∧ b + 100 ≤ s.time
  | .objectTimerExpiry n => ∃ e, (s.object n).timer = some e ∧ e ≤ s.time
  | .pulseEnd o => (s.output o).state = .driven ∧ ∃ e, (s.output o).pulseEnd = some e ∧ e ≤ s.time
  | .windowExpiry o => (s.output o).state = .releasing ∧ ∃ e, (s.output o).windowEnd = some e ∧ e ≤ s.time
  | .gapExpiry k => ∃ op e, s.slot k = .gap op e ∧ e ≤ s.time
  | .watchExpiry k => ∃ op e, s.slot k = .watching op e ∧ e ≤ s.time
  | .saveCompletion => ∃ c b, s.store.save = some ⟨c, .readBack b⟩ ∧ b + 100 ≤ s.time
  | .scanStart => s.scanner.scan = none ∧ ∃ e, s.scanner.nextScan = some e ∧ e ≤ s.time
  | _ => False

/-- The place of an event among those due at one moment: by kind, and within a kind by number (assumption 3). -/
def duePlace : Instr → Nat × Nat
  | .startUpLoadComplete => (0, 0)
  | .objectTimerExpiry n => (1, n)
  | .pulseEnd o => (2, o)
  | .windowExpiry o => (3, o)
  | .gapExpiry k => (4, k)
  | .watchExpiry k => (4, k)
  | .saveCompletion => (5, 0)
  | _ => (6, 0)

/-! ### Receiving -/

/-- The receiver after a run of octets that all come at `now`, with the valid frames they made. -/
def receiveAll (now : Stamp) (r : Receiver) : List Octet → Receiver × List Frame
  | [] => (r, [])
  | o :: os =>
    let x := receiveOctet now r o
    let y := receiveAll now x.1 os
    (y.1, x.2.toList ++ y.2)

/-! ### What sending may change -/

/-- Two records that differ at most in the dirty mark. -/
def ObjectRecord.sameState (a b : ObjectRecord) : Prop := { a with dirty := b.dirty } = b

/-- `t` differs from `s` at most by what the journal and the link did: records, marks, pending items, ENDED slots made
FREE, frames. -/
structure SameRelays (s t : State) : Prop where
  power : t.power = s.power
  straps : t.straps = s.straps
  time : t.time = s.time
  scanner : t.scanner = s.scanner
  filter : t.filter = s.filter
  flash : t.flash = s.flash
  index : t.table.index = s.table.index
  objects : ∀ n, (s.object n).sameState (t.object n)
  outputs : t.press.outputs = s.press.outputs
  slots : ∀ k, t.slot k = s.slot k ∨ ∃ tag rep, s.slot k = .ended tag rep ∧ t.slot k = .free (some rep)
  permits : t.press.permits = s.press.permits
  queue : t.press.queue = s.press.queue
  inhibit : t.press.inhibit = s.press.inhibit
  store : t.store = s.store
  pending : t.pending = s.pending

/-- The blocks no change of an object, module item, output or press operation reaches. -/
structure SameGround (s t : State) : Prop where
  power : t.power = s.power
  straps : t.straps = s.straps
  time : t.time = s.time
  scanner : t.scanner = s.scanner
  filter : t.filter = s.filter
  flash : t.flash = s.flash
  index : t.table.index = s.table.index
  inhibit : t.press.inhibit = s.press.inhibit
  store : t.store = s.store
  pending : t.pending = s.pending

end Sys2Proof.Machine
end

