-- ==== Sys2Proof/WellFormed.lean ====
section
/-! DEFINITION. Which commands can be sent: every field of a request fits the octets R168 gives it, a body fits a frame,
an event names a thing in its range. A number outside its rule's range is well-formed wherever it fits its octets: the
owner refuses it (R170). -/

namespace Sys2Proof

open Sys2Proof.Machine

/-- The number fits one octet. -/
def fitsOctet (n : Nat) : Bool := n < 2 ^ 8

/-- The number fits two octets. -/
def fitsTwo (n : Nat) : Bool := n < 2 ^ 16

/-- A body of this many octets fits a frame (R164). -/
def fitsBody (n : Nat) : Bool := n ≤ Config.bodyLimit

def ModuleEntryField.fits (e : ModuleEntryField) : Bool := fitsOctet e.slot && fitsOctet e.size && fitsTwo e.last

def ReferenceField.fits (r : ReferenceField) : Bool := fitsTwo r.contact && fitsOctet r.role && fitsOctet r.invert

def CheckItemField.fits (c : CheckItemField) : Bool :=
  fitsTwo c.object && fitsOctet c.code && fitsOctet c.aspect && fitsOctet c.flashing

/-- The frame's body fits a frame. -/
def frameFits (f : Frame) : Bool := fitsBody f.body.length

/-- The command can be sent. -/
def WellFormed : Instr → Bool
  | .powerOn straps => straps.unit < 32
  | .powerLoss => true
  | .startUpLoadComplete => true
  | .scanStart => true
  | .scanCompletion reads => (reads.map (·.slot)).all (· < Config.moduleSlots) && (reads.map (·.slot)).Nodup
  | .objectTimerExpiry n => n < Config.objects
  | .pulseEnd o => o < Config.outputs
  | .windowExpiry o => o < Config.outputs
  | .gapExpiry k => k < Config.pressSlots
  | .watchExpiry k => k < Config.pressSlots
  | .saveWritingEnd _ => true
  | .saveCompletion => true
  | .frameDiscarded _ => true
  | .requestDropped f => frameFits f
  | .unknownKind f => frameFits f
  | .echoFrame f => frameFits f
  | .frameSent => true
  | .identify _ => true
  | .readTime _ => true
  | .setMode _ m => fitsOctet m
  | .flow _ h => fitsOctet h
  | .fetch _ s c => fitsOctet s && fitsOctet c
  | .sync _ => true
  | .setScan _ p t => fitsOctet p && fitsOctet t
  | .defineModules _ es => es.all (·.fits) && fitsBody (1 + 4 * es.length)
  | .moduleServiceOut _ s => fitsOctet s
  | .moduleServiceIn _ s => fitsOctet s
  | .readModules _ s c => fitsOctet s && fitsOctet c
  | .defineProfile _ p k h l f => fitsOctet p && fitsOctet k && fitsOctet h && fitsTwo l && fitsOctet f
  | .assignProfile _ a b p => fitsTwo a && fitsTwo b && fitsOctet p
  | .defineFlash _ p a b c d f v =>
    fitsOctet p && fitsTwo a && fitsTwo b && fitsOctet c && fitsOctet d && fitsOctet f && fitsOctet v
  | .readContacts _ s c => fitsTwo s && fitsOctet c
  | .defineObject _ n k u v rs =>
    fitsTwo n && fitsOctet k && fitsOctet u && fitsTwo v && rs.all (·.fits) && fitsBody (7 + 4 * rs.length)
  | .removeObject _ n => fitsTwo n
  | .objectServiceIn _ n => fitsTwo n
  | .objectServiceOut _ n => fitsTwo n
  | .readDefinition _ n => fitsTwo n
  | .readObjects _ s c => fitsTwo s && fitsOctet c
  | .check _ cs => cs.all (·.fits) && fitsBody (1 + 5 * cs.length)
  | .clearLatchObject _ n => fitsTwo n
  | .clearLatchModule _ n => fitsTwo n
  | .clearLatchOutput _ n => fitsTwo n
  | .defineOutput _ o d p r s => fitsOctet o && fitsOctet d && fitsTwo p && fitsTwo r && fitsOctet s
  | .press _ g steps gap watch items =>
    fitsTwo g && steps.all fitsOctet && fitsTwo gap && fitsTwo watch && items.all (·.fits)
      && fitsBody (8 + steps.length + 5 * items.length)
  | .pressStatus _ k => fitsOctet k
  | .pressAbort _ k => fitsOctet k
  | .pressInhibitOn _ => true
  | .pressInhibitOff _ => true
  | .readOutputs _ s c => fitsOctet s && fitsOctet c
  | .save _ => true
  | .storeStatus _ => true
  | .restart _ => true
  | .octetReceived _ => true

end Sys2Proof
end

