-- ==== Sys2Proof/Certificates/Slice0/Obligations.lean ====
section
/-! DEFINITION. The statements for the provers, chapter by chapter. -/

open Sys2Proof Sys2Proof.Machine

/-! ### Step, power, load -/

/-- A step runs the command at the front of the queue on the state with the rest of the queue. -/
def Obligations.StepRunsFront : Prop :=
  ∀ (c : Instr) (rest : List Instr) (s : State),
    Machine.step (s.setPending (c :: rest)) = exec c (s.setPending rest)

/-- The part right after reset (R177, R1, R146, R161, R173): box time 0, the load begun, inhibit on, mode POLLED, store
IDLE, nothing queued; and it has every property that the steps keep. The strap values and the image are the model's
choice (assumptions 5 and 6). -/
def Obligations.ResetIsAsStated : Prop :=
  (State.reset.power = .loading 0 ∧ State.reset.time = 0 ∧ State.reset.press.inhibit = true ∧
     State.reset.press.permits = [none, none] ∧ State.reset.press.queue = [] ∧
     (∀ k, State.reset.slot k = .free none) ∧ (∀ o, State.reset.lineClosed o = false) ∧
     State.reset.link = ⟨.hunting, [], none, .polled, false, false, false⟩ ∧ State.reset.store.state = .idle ∧
     (∀ l, State.reset.lane l = []) ∧ State.reset.scanner.scan = none ∧ State.reset.pending = [] ∧
     State.reset.straps = ⟨false, false, 0, false, false⟩ ∧ State.reset.store.image = .neverWritten) ∧
  (Shaped State.reset ∧ LanesBounded State.reset ∧ RepliesBounded State.reset ∧ TimersHold State.reset ∧
     ObjectsWhole State.reset ∧ IndexWhole State.reset ∧ UnknownPresented State.reset ∧ LinesHeldOpen State.reset ∧
     PressSound State.reset)

/-- POWER_ON on any state (R177): box time 0, the straps as sampled, the load begun, and every block at its power-on
values (R19, R25, R40, R70, R116, R146, R161, R173); POWER_LOSS (R175): the part is off, every line is open, no save
goes on. The image and the waiting commands stand in both. It is the model's choice that POWER_ON acts in any state, and
that a part without power keeps box time and the straps and holds link and store at their power-on values (assumption
8); and that the image-valid indication is clear until the load (assumption 7). -/
def Obligations.PowerComesAndGoes : Prop :=
  (∀ (straps : Straps) (s : State), ∃ t, exec (.powerOn straps) s = .next t ∧
     t.power = .loading 0 ∧ t.time = 0 ∧ t.straps = straps ∧ t.pending = s.pending ∧
     t.store = ⟨.idle, s.store.image, false, none⟩ ∧
     t.link = ⟨.hunting, [], none, .polled, false, false, false⟩ ∧
     (∀ l, t.lane l = []) ∧ t.pendingFlag = false ∧
     (∀ c, t.accepted c = none ∧ (t.contact c).candidate = none ∧ (t.contact c).chattering = false) ∧
     (∀ n, (t.object n).timer = none ∧ (t.object n).latch = none ∧ (t.object n).dirty = none) ∧ t.table.index = [] ∧
     (∀ o, t.lineClosed o = false ∧ (t.output o).owner = none ∧ (t.output o).fault = none) ∧
     (∀ k, t.slot k = .free none) ∧ t.press.permits = [none, none] ∧ t.press.queue = [] ∧ t.press.inhibit = true ∧
     t.scanner.scan = none ∧ t.scanner.lastSample = none ∧ t.scanner.acquisition = 0) ∧
  (∀ s : State, ∃ t, exec .powerLoss s = .next t ∧ t.power = .off ∧ (∀ o, t.lineClosed o = false) ∧
     t.link.sending = none ∧ t.link.replies = [] ∧ t.store = ⟨.idle, s.store.image, false, none⟩ ∧
     t.time = s.time ∧ t.straps = s.straps ∧ t.pending = s.pending)

/-- START_UP_LOAD_COMPLETE (R177, R70, R118, R19): with a valid image and the store-ignore strap open, every part of the
image is applied to its owner as stored; otherwise the defaults apply, and the indication still tells the image's own
judgement: an image is valid where its checksum is the check over its contents (R172). -/
def Obligations.LoadAppliesTheConfiguration : Prop :=
  (StoredImage.neverWritten.valid = false ∧ StoredImage.erased.valid = false ∧
    StoredImage.neverWritten.contents = none ∧ StoredImage.erased.contents = none ∧
    ∀ (c : ImageContents) (k : BitVec 16), (StoredImage.intact c).valid = true ∧ (StoredImage.intact c).contents = some c ∧
      (StoredImage.other c k).contents = some c ∧ ((StoredImage.other c k).valid = true ↔ k = imageCheck c)) ∧
  (∀ (s : State) (b : Stamp) (c : ImageContents), s.power = .loading b → s.straps.storeIgnore = false →
     s.store.image.contents = some c → s.store.image.valid = true →
     ∃ t, exec .startUpLoadComplete s = .next t ∧
       t.power = .operating ∧ t.time = s.time ∧ t.straps = s.straps ∧ t.pending = s.pending ∧
       t.store.imageValid = true ∧ t.store.image = s.store.image ∧ t.store.state = s.store.state ∧
       t.scanner.period = c.period ∧ t.scanner.tolerance = c.tolerance ∧ t.scanner.acquisition = 0 ∧
       t.scanner.scan = none ∧ t.scanner.lastSample = none ∧
       t.scanner.modules
         = c.map.map (fun e => ⟨e.slot, e.size, e.last, .recovering, c.tolerance, false, 0, .fresh, none⟩) ∧
       (c.map = [] → t.scanner.part = .unconfigured ∧ t.scanner.nextScan = none) ∧
       (c.map ≠ [] → t.scanner.part = .acquiring ∧ t.scanner.nextScan = some s.time) ∧
       t.filter.profiles = c.profiles ∧ t.flash = c.flashProfiles ∧
       (∀ n : Nat, t.filter.contacts[n]? = c.assignments[n]?.map (fun p => Contact.fresh p)) ∧
       (∀ (n : Nat) (d : Definition), c.objects[n]? = some (some ⟨d, true⟩) →
         t.object n = ⟨.inService, some d, some (.plain .unknown), none, none, none, none⟩ ∧
         ∀ r ∈ d.refs, ⟨r.contact, n, d.kind.view, r.inverted⟩ ∈ t.table.index) ∧
       (∀ (n : Nat) (d : Definition), c.objects[n]? = some (some ⟨d, false⟩) →
         t.object n = ⟨.outOfService, some d, some (.plain .outOfService), none, none, none, none⟩) ∧
       (∀ n : Nat, c.objects[n]? = some none → t.object n = .undefined) ∧
       (∀ (o : Nat) (x : StoredOutput), c.outputs[o]? = some (some x) →
         t.output o = ⟨true, x.pulse, x.readback, x.sense, .idle, none, none, none, none⟩) ∧
       (∀ o : Nat, c.outputs[o]? = some none → t.output o = ⟨false, 100, none, .closed, .idle, none, none, none, none⟩) ∧
       t.journal = s.journal) ∧
  (∀ (s : State) (b : Stamp), s.power = .loading b → s.store.image.valid = false ∨ s.straps.storeIgnore = true →
     ∃ t, exec .startUpLoadComplete s = .next t ∧ t.power = .operating ∧ t.time = s.time ∧
       t.store.imageValid = s.store.image.valid ∧ t.store.image = s.store.image ∧
       t.scanner = ⟨.unconfigured, 0, 5, 2, [], none, none, none⟩ ∧
       (∀ p : Nat, p < 16 → t.filter.profiles[p]? = some ⟨3, 0, 1000, none⟩) ∧
       (∀ c : Nat, c < 2048 → t.filter.contacts[c]? = some (.fresh 0)) ∧
       (∀ p : Nat, p < 8 → t.flash[p]? = some ⟨700, 1400, 30, 70, 1, .closed⟩) ∧
       (∀ n : Nat, n < 512 → t.table.objects[n]? = some .undefined) ∧ t.table.index = [] ∧
       (∀ o : Nat, o < 64 → t.press.outputs[o]? = some ⟨false, 100, none, .closed, .idle, none, none, none, none⟩) ∧
       t.journal = s.journal ∧ t.pending = s.pending)

/-! ### Scanning -/

/-- SCAN_START when the start of the next scan can be reached (R6, R8): the sample time is the box time at which the scan
starts, the set of slots is fixed, and the next start lies one period later. Besides that a free transmitter chooses its
frame, as FrameSentIsFollowed says (R155, assumption 13), and nothing else changes. -/
def Obligations.ScanStarts : Prop :=
  ∀ (s : State) (d : Stamp), s.scanner.scan = none → s.scanner.nextScan = some d → s.mayReach d →
    ∀ u : State, u = (s.at d).setScanner { s.scanner with
        scan := some ⟨max s.time d, (s.scanner.modules.filter (·.state ≠ .outOfService)).map (·.slot), []⟩,
        nextScan := some (max s.time d + s.scanner.period) } →
      exec .scanStart s = .next (State.finish (s.at d) u) ∧ State.finish (s.at d) u = u.chooseFrame ∧
      (u.link.sending ≠ none → u.chooseFrame = u) ∧ SameRelays u u.chooseFrame

/-- SCAN_COMPLETION with a scan in progress (R8). Every module's result is applied, and its items are handed over in map
order; every contact is filtered under its profile, with the sample of its module's input (R26); the contacts whose
accepted level or views differ make the batch (R35); the resolver finds the objects the batch reaches through the reverse
index (R65) and resolves each once, with the latest stamp of its changed references and cause MODULE where one of them
lost its level (R71, R72); their changes go to the press unit after the whole batch, and the readbacks after them (R95,
R130); then the part state is judged (R17). Every other block stands but for what the journal and the link then do. The
batch of a request is the same over the contacts it leaves, every stamp the time it was taken (R35). The order of the
readbacks is the model's choice (assumption 15). -/
def Obligations.ScanCompletes : Prop :=
  (∀ (s : State) (scan : Scan) (reads : List ModuleRead) (outcomes : List ModuleOutcome)
     (filtered : List (Contact × Option Stamp)) (entries : List BatchEntry), s.scanner.scan = some scan →
     outcomes = s.scanner.modules.map (completeModule s.scanner.tolerance scan reads) →
     filtered = s.filterContacts scan.sampleTime outcomes →
     entries = batchEntries scan.sampleTime 0 s.filter.contacts filtered →
     ∃ u v t : State, exec (.scanCompletion reads) s = .next t ∧
       u = ((outcomes.filterMap (·.item)).foldl State.handModule (s.setScanner { s.scanner with
         acquisition := if s.scanner.part = .acquiring then min (s.scanner.acquisition + 1) 64 else s.scanner.acquisition,
         modules := outcomes.map (·.record), scan := none, lastSample := some scan.sampleTime })).setContacts
           (filtered.map (·.1)) ∧
       v = ((u.resolveBatch entries).1.handToPress (u.resolveBatch entries).2).judgeReadbacks entries ∧
       t = s.finish (v.judgeAcquisition scan.sampleTime) ∧
       (∀ n hits, n < s.table.objects.length →
         hits = (hitsOf s.table.index entries).filter (fun h => h.object = n) →
         (hits = [] ∨ (s.object n).service ≠ .inService → (s.object n).sameState (v.object n)) ∧
         (∀ d old cause stamp, hits ≠ [] → (s.object n).service = .inService → (s.object n).definition = some d →
           (s.object n).presented = some old →
           cause = (if ∃ h ∈ hits, h.lost = true then ChangeCause.module else .contact) →
           (∃ h ∈ hits, h.stamp = stamp) → (∀ h ∈ hits, h.stamp ≤ stamp) →
           (resolveRecord n cause stamp (s.object n) d old (u.rule d old false)).1.sameState (v.object n))) ∧
       t.scanner.modules = outcomes.map (·.record) ∧ t.scanner.scan = none ∧
       t.scanner.lastSample = some scan.sampleTime ∧ t.scanner.nextScan = s.scanner.nextScan ∧
       t.scanner.period = s.scanner.period ∧ t.scanner.tolerance = s.scanner.tolerance ∧
       (s.scanner.part = .acquiring → t.scanner.acquisition = min (s.scanner.acquisition + 1) 64) ∧
       t.filter.contacts = filtered.map (·.1) ∧
       t.filter.profiles = s.filter.profiles ∧ t.flash = s.flash ∧ t.table.index = s.table.index ∧
       t.power = s.power ∧ t.time = s.time ∧ t.straps = s.straps ∧ t.store = s.store ∧
       t.press.inhibit = s.press.inhibit ∧ t.pending = s.pending) ∧
  (∀ (s : State) (time : Stamp) (outcomes : List ModuleOutcome) (n : Nat) (c : Contact) (flash : Option FlashProfile),
     s.filter.contacts[n]? = some c → ((s.profile c.profile).flash = none → flash = none) →
     (∀ f, (s.profile c.profile).flash = some f → flash ≠ none ∧ flash = s.flash[f]?) →
     (s.filterContacts time outcomes)[n]?
       = some (filterContact (s.profile c.profile) flash time (contactInput outcomes n) c)) ∧
  (∀ (outcomes : List ModuleOutcome) (c : Nat),
     (mappedAt (outcomes.map (·.record)) c = none → contactInput outcomes c = ⟨false, none⟩) ∧
     (∀ n input o, mappedAt (outcomes.map (·.record)) c = some (n, input) → outcomes[n]? = some o →
       (o.samples = none → contactInput outcomes c = ⟨o.lost, none⟩) ∧
       (∀ inputs, o.samples = some inputs →
         contactInput outcomes c = ⟨o.lost, some (if inputs.getLsbD input = true then .closed else .opened)⟩))) ∧
  (∀ (time : Stamp) (olds : List Contact) (news : List (Contact × Option Stamp)),
     ((batchEntries time 0 olds news).map (·.contact)).Pairwise (· < ·) ∧
     ∀ e, e ∈ batchEntries time 0 olds news ↔ ∃ (n : Nat) (old new : Contact) (stamp : Option Stamp),
       olds[n]? = some old ∧ news[n]? = some (new, stamp) ∧
       (old.accepted ≠ new.accepted ∨ levelView old false ≠ levelView new false ∨
         lampView old false ≠ lampView new false) ∧
       e = ⟨n, new.accepted, levelView new false, lampView new false, old.accepted ≠ new.accepted,
         levelView old false ≠ levelView new false, lampView old false ≠ lampView new false, stamp.getD time⟩) ∧
  (∀ (index : List IndexEntry) (entries : List BatchEntry) (h : Hit), h ∈ hitsOf index entries ↔
     ∃ e ∈ entries, ∃ x ∈ index, x.contact = e.contact ∧
       ((x.view = .level ∧ e.levelChanged = true) ∨ (x.view = .lamp ∧ e.lampChanged = true)) ∧
       h = ⟨x.object, e.stamp, e.accepted.isNone⟩) ∧
  (∀ (s : State) (entries : List BatchEntry), s.resolveBatch entries
     = (List.range s.table.objects.length).foldl (State.resolveHits (hitsOf s.table.index entries)) (s, []) ∧
     s.applyBatch entries
       = ((s.resolveBatch entries).1.handToPress (s.resolveBatch entries).2).judgeReadbacks entries) ∧
  (∀ (time : Stamp) (olds news : List Contact),
     requestBatch time olds news = batchEntries time 0 olds (news.map (fun c => (c, none)))) ∧
  (∀ (hits mine : List Hit) (acc : State × List Change) (n : Nat), mine = hits.filter (fun h => h.object = n) →
     (mine = [] → State.resolveHits hits acc n = acc) ∧
     (∀ cause stamp, mine ≠ [] →
       cause = (if ∃ h ∈ mine, h.lost = true then ChangeCause.module else .contact) →
       (∃ h ∈ mine, h.stamp = stamp) → (∀ h ∈ mine, h.stamp ≤ stamp) →
       State.resolveHits hits acc n = ((acc.1.resolve n cause stamp false).1,
         acc.2 ++ (acc.1.resolve n cause stamp false).2.toList))) ∧
  (∀ (s : State) (entries : List BatchEntry),
     s.judgeReadbacks entries = (List.range 64).foldl (State.judgeRelease entries) s ∧
     ∀ o, (((s.output o).state = .releasing ∧ (s.output o).windowEnd ≠ none ∧ ∃ c, (s.output o).readback = some c ∧
           ∃ e ∈ entries, e.contact = c ∧ ∃ l, e.accepted = some l ∧ l ≠ (s.output o).sense) →
         State.judgeRelease entries s o = s.completeRelease o) ∧
       (¬ ((s.output o).state = .releasing ∧ (s.output o).windowEnd ≠ none ∧ ∃ c, (s.output o).readback = some c ∧
           ∃ e ∈ entries, e.contact = c ∧ ∃ l, e.accepted = some l ∧ l ≠ (s.output o).sense) →
         State.judgeRelease entries s o = s))

/-- The part state (R16, R17): in ACQUIRING a completion takes the part into RUNNING exactly when, after it, some module
is IN-SERVICE with every mapped contact of every IN-SERVICE module known, or 64 scans have been counted; a completion
changes it in no other way. At that entry a MODULE item of each FAILED module is handed over and every object is marked
(R109); that the items go in map order is the model's choice (assumption 32). RUNNING is left only through
DEFINE-MODULES (or the octet that completes its frame), RESTART, or the power. -/
def Obligations.RunningIsEnteredAtAcquisition : Prop :=
  (∀ (s : State) (scan : Scan) (reads : List ModuleRead) (t : State), s.scanner.scan = some scan →
    exec (.scanCompletion reads) s = .next t →
    (s.scanner.part = .acquiring →
      (t.scanner.part = .running ↔ (t.acquired = true ∨ 64 ≤ t.scanner.acquisition)) ∧
      (t.scanner.part = .running ∨ t.scanner.part = .acquiring)) ∧
    (s.scanner.part ≠ .acquiring → t.scanner.part = s.scanner.part)) ∧
  (∀ s : State, s.acquired = true ↔
    (∃ m ∈ s.scanner.modules, m.state = .inService) ∧
    ∀ (c n input : Nat) (m : ModuleRecord), c < s.filter.contacts.length →
      mappedAt s.scanner.modules c = some (n, input) → s.scanner.modules[n]? = some m → m.state = .inService →
      s.accepted c ≠ none) ∧
  (∀ (s : State) (time : Stamp),
    (s.scanner.part = .acquiring → s.acquired = true ∨ 64 ≤ s.scanner.acquisition → ∀ u : State,
      u = ((s.scanner.modules.filter (fun m => m.state = .failed)).map
        (fun m => ModuleItem.mk m.slot .failed (m.latch.map (·.cause)) time)).foldl State.handModule s →
      s.judgeAcquisition time = (u.setScanner { u.scanner with part := .running }).markAll) ∧
    (s.scanner.part ≠ .acquiring ∨ (s.acquired = false ∧ s.scanner.acquisition < 64) → s.judgeAcquisition time = s)) ∧
  ∀ (i : Instr) (s t : State), exec i s = .next t → s.scanner.part = .running → t.scanner.part ≠ .running →
    (∃ tag entries, i = .defineModules tag entries) ∨ (i = .frameSent ∧ s.link.restarting = true) ∨
      (∃ straps, i = .powerOn straps) ∨ i = .powerLoss ∨ (∃ b, i = .startUpLoadComplete ∧ s.power = .loading b) ∨
      ∃ o f tag entries, i = .octetReceived o ∧ (receiveOctet s.time s.link.receiver o).2 = some f ∧
        decodeRequest f = .request (.defineModules tag entries)

/-- A module read (R9 to R12): its classification, first case first; and what a result does to its module: reload and
delivery, loss of credit, failure with its latch and item, the start, the steps and the end of recovery, and the two
ways a recovery breaks; a discarded result changes nothing, and neither does a scan that does not read the module (R8).
A slot of which SCAN_COMPLETION tells nothing sent nothing (assumption 10). That the item of the end of recovery does
not ask for the recovery's origin is read from R12 against 11.2 (assumption 29); that a field which no rule writes keeps
its value is the model's choice (assumption 20). -/
def Obligations.ModuleReadsAreApplied : Prop :=
  (∀ size : Nat, (size = 16 ∨ size = 32 ∨ size = 64) →
     classifyRead size .nothing = .bad .noAnswer ∧
     classifyRead size .parityError = .bad .busCheck ∧
     (∀ inputs, classifyRead size (.answer .other inputs) = .bad .wrongType) ∧
     (∀ code inputs n, code.size = some n → n ≠ size →
       classifyRead size (.answer code inputs) = .bad .wrongType) ∧
     (∀ code inputs, code.size = some size → classifyRead size (.answer code inputs) = .good inputs)) ∧
  (∀ (tol : Nat) (scan : Scan) (reads : List ModuleRead) (m : ModuleRecord), m.slot ∈ scan.slots →
     (m.slot ∈ scan.discarded → completeModule tol scan reads m = ⟨m, none, none, false⟩) ∧
     (m.slot ∉ scan.discarded →
       (∀ inputs, classifyRead m.size (answerOf reads m.slot) = .good inputs →
         (m.state = .inService → completeModule tol scan reads m
           = ⟨{ m with faultCounter := tol, suspect := false }, none, some inputs, false⟩) ∧
         (m.state = .failed → completeModule tol scan reads m
           = ⟨{ m with state := .recovering, recovery := 1, origin := .failed },
               some ⟨m.slot, .recovering, none, scan.sampleTime⟩, none, false⟩) ∧
         (m.state = .recovering → m.recovery < 7 → completeModule tol scan reads m
           = ⟨{ m with recovery := m.recovery + 1 }, none, none, false⟩) ∧
         (m.state = .recovering → m.recovery = 7 → completeModule tol scan reads m
           = ⟨{ m with state := .inService, faultCounter := tol, suspect := false, recovery := 0 },
               some ⟨m.slot, .inService, none, scan.sampleTime⟩, some inputs, false⟩)) ∧
       (∀ cause, classifyRead m.size (answerOf reads m.slot) = .bad cause →
         (m.state = .inService → m.faultCounter ≠ 0 → completeModule tol scan reads m
           = ⟨{ m with faultCounter := m.faultCounter - 1, suspect := true }, none, none, false⟩) ∧
         (m.state = .inService → m.faultCounter = 0 → completeModule tol scan reads m
           = ⟨{ m with state := .failed, suspect := false, latch := some (m.latch.getD ⟨cause, scan.sampleTime⟩) },
               some ⟨m.slot, .failed, some cause, scan.sampleTime⟩, none, true⟩) ∧
         (m.state = .failed → completeModule tol scan reads m = ⟨m, none, none, false⟩) ∧
         (m.state = .recovering → m.origin = .fresh → completeModule tol scan reads m
           = ⟨{ m with recovery := 0 }, none, none, false⟩) ∧
         (m.state = .recovering → m.origin = .failed → completeModule tol scan reads m
           = ⟨{ m with state := .failed, recovery := 0, latch := some (m.latch.getD ⟨cause, scan.sampleTime⟩) },
               some ⟨m.slot, .failed, some cause, scan.sampleTime⟩, none, false⟩)))) ∧
  (∀ (tol : Nat) (scan : Scan) (reads : List ModuleRead) (m : ModuleRecord),
     m.slot ∉ scan.slots ∨ m.state = .outOfService → completeModule tol scan reads m = ⟨m, none, none, false⟩) ∧
  (∀ (reads : List ModuleRead) (slot : Nat),
     (∀ r, reads.find? (fun x => x.slot = slot) = some r → answerOf reads slot = r.answer) ∧
     ((∀ r ∈ reads, r.slot ≠ slot) → answerOf reads slot = .nothing))

/-- The map gives a contact its input (R3): the entry whose range holds it, numbered from that range's first contact, and
mapped where that number is below the size. -/
def Obligations.MapGivesInputs : Prop :=
  ∀ (ms : List ModuleRecord) (c n input : Nat),
    (∀ (i : Nat) (a b : ModuleRecord), ms[i]? = some a → ms[i + 1]? = some b → a.last < b.last) →
    (mappedAt ms c = some (n, input) ↔
      ∃ m, ms[n]? = some m ∧ firstContact ms n ≤ c ∧ c ≤ m.last ∧ input = c - firstContact ms n ∧ input < m.size)

/-- DEFINE-MODULES (R4, R5, R6): the checks in their order, and the accepted map with everything that starts afresh. -/
def Obligations.DefineModulesReplacesTheMap : Prop :=
  ∀ (s : State) (tag : Octet) (entries : List ModuleEntryField), s.serves →
    (s.busy = true → exec (.defineModules tag entries) s = .next (s.afterReply 0x91#8 tag .busy [])) ∧
    (s.busy = false → ((∃ n, (s.object n).service = .inService) ∨ (∃ k, (s.slot k).isFree = false)) →
      exec (.defineModules tag entries) s = .next (s.afterReply 0x91#8 tag .badState [])) ∧
    (s.busy = false → (∀ n, (s.object n).service ≠ .inService) → (∀ k, (s.slot k).isFree = true) →
      (¬ SoundMap entries → exec (.defineModules tag entries) s = .next (s.afterReply 0x91#8 tag .badParam [])) ∧
      (SoundMap entries → exec (.defineModules tag entries) s = .next
        (((s.setScanner { s.scanner with
          part := if entries = [] then .unconfigured else .acquiring,
          acquisition := 0,
          modules := entries.map (fun e => ⟨e.slot, e.size, e.last, .recovering, s.scanner.tolerance, false, 0, .fresh,
            none⟩),
          scan := none,
          nextScan := if entries = [] then none
            else if s.scanner.part = .unconfigured then some s.time else s.scanner.nextScan }).setContacts
          (s.filter.contacts.map (fun c => ⟨none, none, 0, none, false, c.profile, ⟨.steady, none, none, 0, none, none⟩⟩))).afterReply
          0x91#8 tag .ok [])))

/-- SET-SCAN (R7): BUSY, or the period and T as taken, with no IN-SERVICE module left above the new T. -/
def Obligations.SetScanTakesPeriodAndTolerance : Prop :=
  ∀ (s : State) (tag : Octet) (p t : Nat), s.serves →
    (s.busy = true → exec (.setScan tag p t) s = .next (s.afterReply 0x90#8 tag .busy [])) ∧
    (s.busy = false → ∀ p' t' : Nat,
      (p' = if p = 2 ∨ p = 4 ∨ p = 5 ∨ p = 8 ∨ p = 10 ∨ p = 20 then p else 5) → (t' = if 15 < t then 15 else t) →
      exec (.setScan tag p t) s = .next
        ((s.setScanner { s.scanner with
          period := p', tolerance := t',
          modules := s.scanner.modules.map (fun m =>
            if m.state = .inService then { m with faultCounter := min m.faultCounter t' } else m) }).afterReply
          0x90#8 tag .ok [oct p', oct t']))

/-- MODULE-SERVICE (R13, R14): the checks in their order; out leaves the module out of service, its result in a running
scan discarded, its item with the journal, its contacts without their levels, and after the item the batch that this
makes (R29, R35); in leaves it RECOVERING afresh, with its item. -/
def Obligations.ModulesChangeService : Prop :=
  (∀ (s : State) (tag : Octet) (slot : Nat), s.serves →
     (s.busy = true → exec (.moduleServiceOut tag slot) s = .next (s.afterReply 0x92#8 tag .busy [])) ∧
     (s.busy = false → 31 < slot → exec (.moduleServiceOut tag slot) s = .next (s.afterReply 0x92#8 tag .badParam [])) ∧
     (s.busy = false → slot ≤ 31 → (∀ m ∈ s.scanner.modules, m.slot ≠ slot) →
       exec (.moduleServiceOut tag slot) s = .next (s.afterReply 0x92#8 tag .notDefined [])) ∧
     (∀ m, s.busy = false → slot ≤ 31 → s.scanner.modules.find? (fun x => x.slot = slot) = some m →
       (m.state = .outOfService →
         exec (.moduleServiceOut tag slot) s = .next (s.afterReply 0x92#8 tag .badState [])) ∧
       (m.state ≠ .outOfService → Shaped s →
         ∃ (scanner : Scanner) (contacts : List Contact) (v u t : State), exec (.moduleServiceOut tag slot) s = .next t ∧
           scanner = { s.scanner with
             modules := s.scanner.modules.map (fun x => if x.slot = slot then
               { x with state := .outOfService, suspect := false, faultCounter := 0, recovery := 0 } else x),
             scan := s.scanner.scan.map (fun x => { x with discarded := slot :: x.discarded }) } ∧
           v = (s.setScanner scanner).handModule ⟨slot, .outOfService, none, s.time⟩ ∧
           u = (v.setContacts contacts).applyBatch (requestBatch s.time s.filter.contacts contacts) ∧
           t = State.finish s (u.afterReply 0x92#8 tag .ok []) ∧ u.link = s.link ∧
           contacts.length = s.filter.contacts.length ∧ t.filter.contacts = contacts ∧
           (∀ c n input x, mappedAt s.scanner.modules c = some (n, input) → s.scanner.modules[n]? = some x →
             x.slot = slot →
             t.contact c = ⟨none, none, 0, none, false, (s.contact c).profile, ⟨.steady, none, none, 0, none, none⟩⟩) ∧
           (∀ c, (∀ n input x, mappedAt s.scanner.modules c = some (n, input) → s.scanner.modules[n]? = some x →
             x.slot ≠ slot) → t.contact c = s.contact c) ∧
           t.scanner = scanner ∧ t.hasModuleItem ⟨slot, .outOfService, none, s.time⟩ ∧
           t.filter.profiles = s.filter.profiles ∧ t.flash = s.flash ∧ t.table.index = s.table.index ∧
           t.power = s.power ∧ t.time = s.time ∧ t.straps = s.straps ∧ t.store = s.store ∧
           t.press.inhibit = s.press.inhibit ∧ t.pending = s.pending))) ∧
  (∀ (s : State) (tag : Octet) (slot : Nat), s.serves →
     (s.busy = true → exec (.moduleServiceIn tag slot) s = .next (s.afterReply 0x92#8 tag .busy [])) ∧
     (s.busy = false → 31 < slot → exec (.moduleServiceIn tag slot) s = .next (s.afterReply 0x92#8 tag .badParam [])) ∧
     (s.busy = false → slot ≤ 31 → (∀ m ∈ s.scanner.modules, m.slot ≠ slot) →
       exec (.moduleServiceIn tag slot) s = .next (s.afterReply 0x92#8 tag .notDefined [])) ∧
     (∀ m, s.busy = false → slot ≤ 31 → s.scanner.modules.find? (fun x => x.slot = slot) = some m →
       (m.state ≠ .outOfService → exec (.moduleServiceIn tag slot) s = .next (s.afterReply 0x92#8 tag .badState [])) ∧
       (m.state = .outOfService → Shaped s →
         ∃ v u : State, exec (.moduleServiceIn tag slot) s = .next (u.afterReply 0x92#8 tag .ok []) ∧
           v = s.setScanner { s.scanner with
             modules := s.scanner.modules.map (fun x => if x.slot = slot then
               { x with state := .recovering, recovery := 0, origin := .fresh } else x),
             scan := s.scanner.scan.map (fun x => { x with discarded := slot :: x.discarded }) } ∧
           u = v.handModule ⟨slot, .recovering, none, s.time⟩ ∧ u.link = s.link ∧ SameRelays v u ∧
           u.hasModuleItem ⟨slot, .recovering, none, s.time⟩)))

/-- CLEAR-LATCH for a module (R15): its answers, and the latch it empties. -/
def Obligations.ModuleLatchIsCleared : Prop :=
  ∀ (s : State) (tag : Octet) (slot : Nat), s.serves →
    (31 < slot → exec (.clearLatchModule tag slot) s = .next (s.afterReply 0xA6#8 tag .badParam [])) ∧
    (slot ≤ 31 → (∀ m ∈ s.scanner.modules, m.slot ≠ slot) →
      exec (.clearLatchModule tag slot) s = .next (s.afterReply 0xA6#8 tag .notDefined [])) ∧
    (∀ m, slot ≤ 31 → s.scanner.modules.find? (fun x => x.slot = slot) = some m →
      (m.state = .failed → exec (.clearLatchModule tag slot) s = .next (s.afterReply 0xA6#8 tag .stillActive [])) ∧
      (m.state ≠ .failed → exec (.clearLatchModule tag slot) s = .next
        ((s.setScanner { s.scanner with
          modules := s.scanner.modules.map (fun x => if x.slot = slot then { x with latch := none } else x) }).afterReply
          0xA6#8 tag .ok [])))

/-- Box time (R1): every request leaves it as it stands, and whatever the step it never runs back, but at a POWER_ON. On
an empty queue the step is the model's choice (assumptions 1, 3 and 9): without power nothing happens; an event that is
due happens, the first of them by kind and number; nothing happens while a scan's answers (R8) or the end of writing
(R175) are overdue; and otherwise box time advances by one millisecond, up to the last of its 48-bit values. What is
owed, which an event taken ahead of box time must not pass (assumption 2), is every running expiry, the next scan start,
and the bounds of a scan in progress, of a save's stage, and of the load. -/
def Obligations.BoxTimeIsKept : Prop :=
  (∀ (i : Instr) (f : Frame) (s t : State), encodeRequest i = some f → exec i s = .next t → t.time = s.time) ∧
  (∀ s t : State, (∀ straps, s.pending.head? ≠ some (.powerOn straps)) → Machine.step s = .next t → s.time ≤ t.time) ∧
  (∀ s : State, s.pending = [] → s.press.slots.length = 4 →
    (s.power = .off → Machine.step s = .next s) ∧
    (s.power ≠ .off →
      (∀ c, s.isDue c → (∀ d, s.isDue d → (duePlace c).1 < (duePlace d).1 ∨
          ((duePlace c).1 = (duePlace d).1 ∧ (duePlace c).2 ≤ (duePlace d).2)) → Machine.step s = exec c s) ∧
      ((∀ c, ¬ s.isDue c) → ∀ waits : Prop,
        (waits ↔ (∃ x, s.scanner.scan = some x ∧ x.sampleTime + 1 ≤ s.time) ∨
          ∃ c b, s.store.save = some ⟨c, .writing b⟩ ∧ b + 1500 ≤ s.time) →
        (waits → Machine.step s = .next s) ∧
        (¬ waits → s.time < 2 ^ 48 - 1 → Machine.step s = .next (s.setTime (s.time + 1))) ∧
        (¬ waits → 2 ^ 48 - 1 ≤ s.time → Machine.step s = .fault .boxTimeEnds)))) ∧
  (∀ (s : State) (e : Stamp), e ∈ s.owed ↔
    (∃ b, s.power = .loading b ∧ e = b + 100) ∨ (∃ x, s.scanner.scan = some x ∧ e = x.sampleTime + 1) ∨
    s.scanner.nextScan = some e ∨ (∃ n, (s.object n).timer = some e) ∨
    (∃ o, (s.output o).pulseEnd = some e ∨ (s.output o).windowEnd = some e) ∨
    (∃ k op, s.slot k = .gap op e ∨ s.slot k = .watching op e) ∨
    ∃ c b, (s.store.save = some ⟨c, .writing b⟩ ∧ e = b + 1500) ∨ (s.store.save = some ⟨c, .readBack b⟩ ∧ e = b + 100))

/-- IDENTIFY, READ-TIME and STORE-STATUS (R160, R2, R173), READ-MODULES, READ-CONTACTS, READ-OBJECTS and READ-OUTPUTS
(R18, R36, R69, R145, R171) answer what stands and change nothing but the link: BAD-PARAM for a start out of range,
otherwise as many entries from the start as the count, the range and the reply allow. Then what these octets are: absent
values (R163), codes (R165 to R167), the status summary (R157, R165), and the entries (R169). Where the presented state
is absent, attributes written 0x00 are the model's choice (assumption 21). -/
def Obligations.StateIsRead : Prop :=
  (∀ (s : State) (tag : Octet), s.serves →
     exec (.identify tag) s = .next (s.afterReply 0x81#8 tag .ok
       [0x71#8, 0x01#8, oct s.straps.unit,
         oct (bit s.straps.rate0 + 2 * bit s.straps.rate1 + 4 * bit s.straps.pressEnable + 8 * bit s.straps.storeIgnore)]) ∧
     exec (.readTime tag) s = .next (s.afterReply 0x82#8 tag .ok (oct6 s.time ++ octStamp s.scanner.lastSample)) ∧
     exec (.storeStatus tag) s = .next (s.afterReply 0xC1#8 tag .ok
       [oct s.store.state.code, oct (bit s.store.imageValid)])) ∧
  (∀ (s : State) (tag : Octet) (start count : Nat), s.serves →
     (31 < start → exec (.readModules tag start count) s = .next (s.afterReply 0x93#8 tag .badParam [])) ∧
     (start ≤ 31 → ∀ n, n = min (min (min (max count 1) 16) (s.scanner.modules.length - start)) 13 →
       exec (.readModules tag start count) s = .next (s.afterReply 0x93#8 tag .ok
         ([oct s.scanner.part.code, oct s.scanner.period, oct s.scanner.tolerance, oct s.scanner.acquisition,
           oct s.scanner.modules.length, oct n]
           ++ ((s.scanner.modules.drop start).take n).flatMap ModuleRecord.octets))) ∧
     (2047 < start → exec (.readContacts tag start count) s = .next (s.afterReply 0x9B#8 tag .badParam [])) ∧
     (start ≤ 2047 → ∀ n, n = min (min (min (max count 1) 64) (2048 - start)) 14 →
       exec (.readContacts tag start count) s = .next (s.afterReply 0x9B#8 tag .ok
         (oct2 start ++ oct n :: (List.range' start n).flatMap s.contactOctets))) ∧
     (511 < start → exec (.readObjects tag start count) s = .next (s.afterReply 0xA4#8 tag .badParam [])) ∧
     (start ≤ 511 → ∀ n, n = min (min (min (max count 1) 12) (512 - start)) 8 →
       exec (.readObjects tag start count) s = .next (s.afterReply 0xA4#8 tag .ok
         (oct2 start ++ oct n :: (List.range' start n).flatMap (fun i => (s.object i).octets)))) ∧
     (63 < start → exec (.readOutputs tag start count) s = .next (s.afterReply 0xB5#8 tag .badParam [])) ∧
     (start ≤ 63 → ∀ n, n = min (min (min (max count 1) 16) (64 - start)) 13 →
       exec (.readOutputs tag start count) s = .next (s.afterReply 0xB5#8 tag .ok
         (s.outputsHeader start n ++ (List.range' start n).flatMap (fun o => (s.output o).octets))))) ∧
  -- absent values
  (octNum none = 0xFF#8 ∧ octNum2 none = [0xFF#8, 0xFF#8] ∧ octStamp none = List.replicate 6 0xFF#8 ∧
    (∀ n, octNum (some n) = oct n ∧ octNum2 (some n) = [oct (n / 256), oct n] ∧ oct2 n = [oct (n / 256), oct n] ∧
      octStamp (some n) = oct6 n ∧ oct6 n = (List.range 6).map (fun i => oct (n / 256 ^ (5 - i))))) ∧
  -- codes
  ([ResultCode.ok, .busy, .badParam, .badState, .notDefined, .noSlot, .claimed, .outputFault, .inhibited, .stillActive,
      .unknownKind].map ResultCode.code = List.range 11 ∧
    [StateCode.unknown, .contradiction, .outOfService, .clear, .occupied, .normal, .reverse, .moving, .lost, .showing,
      .dark, .off, .on, .flashing, .irregular, .up, .down, .fault].map StateCode.code
      = [0x01, 0x02, 0x03, 0x10, 0x11, 0x20, 0x21, 0x22, 0x23, 0x30, 0x31, 0x40, 0x41, 0x42, 0x43, 0x50, 0x51, 0x52] ∧
    [Kind.track, .points, .signal, .indication, .relay].map Kind.code = [1, 2, 3, 4, 5] ∧
    [Role.clear, .back, .normalDetect, .reverseDetect, .lock, .aspect0, .aspect1, .aspect2, .aspect3, .lamp, .front].map
      Role.code = [1, 2, 3, 4, 5, 6, 7, 8, 9, 10, 11] ∧
    [Service.undefined, .outOfService, .inService].map Service.code = [0, 1, 2] ∧
    [Urgency.normal, .allUrgent].map Urgency.code = [0, 1] ∧ [LinkMode.polled, .stream, .echo].map LinkMode.code = [0, 1, 2] ∧
    [some Level.opened, some .closed, none].map acceptedCode = [0, 1, 2] ∧
    [FlashClass.steady, .flashing, .irregular].map FlashClass.code = [0, 1, 2] ∧
    [Level.closed, .opened].map senseCode = [0, 1] ∧
    [PartState.unconfigured, .acquiring, .running].map PartState.code = [0, 1, 2] ∧
    [StoreState.idle, .busy, .lastOk, .lastFailed].map StoreState.code = [0, 1, 2, 3] ∧
    [ModuleState.inService, .failed, .recovering, .outOfService].map ModuleState.code = [1, 2, 3, 4] ∧
    [none, some FailureCause.noAnswer, some .wrongType, some .busCheck].map causeCode = [0, 1, 2, 3] ∧
    [RecoveryOrigin.fresh, .failed].map RecoveryOrigin.code = [0, 1] ∧
    [OutputState.idle, .claimed, .driven, .releasing, .faulted].map OutputState.code = [0, 1, 2, 3, 4] ∧
    [none, some DriverCause.stuck, some .noReadback, some .readbackLost].map driverCode = [0, 1, 2, 3]) ∧
  -- the status summary
  (∀ s : State, s.summary =
    [oct (s.scanner.part.code + 4 * s.link.mode.code + 16 * bit s.link.hold + 32 * bit s.press.inhibit),
      oct (s.lane .urgent).length, oct (s.lane .routine).length,
      oct (bit (s.pendingFor .urgent || s.pendingFor .routine) + 2 * bit s.link.dropped + 4 * s.store.state.code),
      oct (s.scanner.modules.countP (·.state = .failed)), oct (s.press.outputs.countP (·.state = .faulted)),
      oct (s.press.slots.countP (fun x => !x.isFree)), oct s.scanner.period]) ∧
  -- the entries
  (∀ m : ModuleRecord, m.octets = [oct m.slot, oct m.size] ++ oct2 m.last ++ [oct m.state.code, oct m.faultCounter,
    oct (bit m.suspect + 2 * m.recovery + 32 * m.origin.code), oct (causeCode (m.latch.map (·.cause)))]
      ++ octStamp (m.latch.map (·.stamp))) ∧
  (∀ (s : State) (n cover candidate cls : Nat),
    ((∃ x, mappedAt s.scanner.modules n = some x) → cover = 0) →
    (mappedAt s.scanner.modules n = none → (∃ m ∈ s.scanner.modules, n ≤ m.last) → cover = 1) →
    ((∀ m ∈ s.scanner.modules, m.last < n) → cover = 2) →
    (candidate = match (s.contact n).candidate with | none => 3 | some k => acceptedCode (some k.level)) →
    ((s.profile (s.contact n).profile).flash = none → cls = 3) →
    ((s.profile (s.contact n).profile).flash ≠ none → cls = (s.contact n).flash.cls.code) →
    s.contactOctets n = [oct (cover + 4 * acceptedCode (s.contact n).accepted + 16 * candidate
        + 64 * bit (s.contact n).chattering),
      oct ((s.contact n).profile + 16 * (match (s.contact n).candidate with | none => 0 | some k => k.count)),
      oct ((s.contact n).chatterCount + 16 * cls)]
        ++ octStamp ((s.contact n).candidate.map (·.stamp)) ++ octNum2 (s.contact n).flash.lastPeriod
        ++ octNum2 (s.contact n).flash.lastOn) ∧
  (∀ (o : ObjectRecord) (kind latch : Nat), (o.definition = none → kind = 0) →
    (∀ d, o.definition = some d → kind = d.kind.code) → (o.latch = none → latch = 0) →
    (∀ x, o.latch = some x → latch = x.code.code) → ∀ shown : List Octet, (o.presented = none → shown = [0#8, 0xFF#8, 0#8]) →
    (∀ p, o.presented = some p → shown = [oct p.code.code, octNum p.aspect, oct (bit p.attrs.flashing
      + 2 * bit p.attrs.irregular + 4 * bit p.attrs.chatter + 8 * bit p.attrs.locked + 16 * bit p.attrs.free
      + 32 * bit p.attrs.latched)]) →
    o.octets = [oct (o.service.code + 4 * kind + 32 * bit o.dirty.isSome + 64 * bit (o.dirty = some .urgent))]
      ++ shown ++ octStamp o.lastStamp ++ octStamp o.timer ++ [oct latch] ++ octStamp (o.latch.map (·.stamp))) ∧
  (∀ r : OutputRecord, (r.pulseEnd = none ∨ r.windowEnd = none) →
    r.octets = [oct (bit r.defined + 2 * senseCode r.sense + 4 * r.state.code)] ++ oct2 r.pulse ++ octNum2 r.readback
      ++ [octNum r.owner] ++ octStamp (r.pulseEnd.or r.windowEnd) ++ [oct (driverCode r.fault)]) ∧
  (∀ (s : State) (start n : Nat) (x y : Option Nat), s.press.queue.length ≤ 4 →
    (∀ (p : Nat) (z : Option Nat), (p = 0 ∧ z = x) ∨ (p = 1 ∧ z = y) →
      (s.press.permits[p]? = some none ∧ z = none) ∨
        ∃ k op, s.press.permits[p]? = some (some k) ∧ (s.slot k).operation = some op ∧ z = op.current) →
    s.outputsHeader start n = [oct (bit s.press.inhibit + 2 * bit s.straps.pressEnable), octNum x, octNum y,
      oct s.press.queue.length] ++ (s.press.queue.map oct ++ List.replicate (4 - s.press.queue.length) 0xFF#8)
      ++ [oct start, oct n])

/-! ### Contacts -/

/-- The level view (R33): which kinds use it, its table, and what does not take part in it. The active level is CLOSED
for a plain reference and OPEN for an inverted one (R53). -/
def Obligations.LevelViewIsDecided : Prop :=
  (∀ k : Kind, k.view = .level ↔ (k = .track ∨ k = .points ∨ k = .relay)) ∧
  (activeLevel false = .closed ∧ activeLevel true = .opened) ∧
  ∀ (c : Contact) (inverted : Bool),
    (c.accepted = none → levelView c inverted = .unknown) ∧
    (∀ l, c.accepted = some l →
      (c.chattering = true → levelView c inverted = .chatter) ∧
      (c.chattering = false → l = activeLevel inverted → levelView c inverted = .active) ∧
      (c.chattering = false → l ≠ activeLevel inverted → levelView c inverted = .inactive)) ∧
    (∀ f, levelView { c with flash := f } inverted = levelView c inverted) ∧
    (∀ l l', c.accepted = some l → l' ≠ l → c.chattering = false →
      levelView { c with accepted := some l' } inverted ≠ levelView c inverted) ∧
    (∀ l l', c.accepted = some l → c.chattering = true →
      levelView { c with accepted := some l' } inverted = levelView c inverted)

/-- The lamp view (R34): which kinds use it, its table, and what shows in it; the active level is that of R53. -/
def Obligations.LampViewIsDecided : Prop :=
  (∀ k : Kind, k.view = .lamp ↔ (k = .signal ∨ k = .indication)) ∧
  (activeLevel false = .closed ∧ activeLevel true = .opened) ∧
  (∀ p : ContactProfile, p.flash ≠ none → p.checksChatter = false) ∧
  ∀ (c : Contact) (inverted : Bool),
    (c.accepted = none → lampView c inverted = .unknown) ∧
    (∀ l, c.accepted = some l →
      (c.flash.cls = .flashing → lampView c inverted = .flashing) ∧
      (c.flash.cls = .irregular → lampView c inverted = .irregular) ∧
      (c.flash.cls = .steady → c.chattering = true → lampView c inverted = .irregular) ∧
      (c.flash.cls = .steady → c.chattering = false → l = activeLevel inverted → lampView c inverted = .lit) ∧
      (c.flash.cls = .steady → c.chattering = false → l ≠ activeLevel inverted → lampView c inverted = .dark)) ∧
    (∀ l l', c.accepted = some l → c.flash.cls ≠ .steady →
      lampView { c with accepted := some l' } inverted = lampView c inverted)

/-- A sample (R27, R28): one that equals the accepted level drops the candidate; any other extends the candidate or
starts a new one, and the K-th in a row is accepted with the stamp of the first of them, as an edge, which is counted for
chatter (R30), or as an acquisition, which is not. No edge comes with the first sample of a run but at K = 1. -/
def Obligations.SampleIsDebounced : Prop :=
  ∀ (p : ContactProfile) (v : Level) (s : Stamp) (c : Contact),
    (c.accepted = some v → takeSample p v s c = ({ c with candidate := none }, .nothing)) ∧
    (c.accepted ≠ some v → ∀ k : Candidate,
      (∀ old, c.candidate = some old → old.level = v → k = ⟨v, old.count + 1, old.stamp⟩) →
      ((∀ old, c.candidate = some old → old.level ≠ v) → k = ⟨v, 1, s⟩) →
      (k.count < p.depth → takeSample p v s c = ({ c with candidate := some k }, .nothing)) ∧
      (p.depth ≤ k.count → c.accepted = none →
        takeSample p v s c = ({ c with accepted := some v, candidate := none }, .acquired k.stamp)) ∧
      (p.depth ≤ k.count → c.accepted ≠ none →
        takeSample p v s c = (countEdge p k.stamp { c with accepted := some v, candidate := none }, .edge k.stamp)))

/-- A completion deals with a contact in the order of R32: the loss of its level, the leak check, its sample, then, for
a flash-profiled contact, the silence check and an accepted edge (R42); the stamp is the latest of those of what changed
(R35, assumption 24). Every completion keeps a contact's record within its bounds (R27, 2.2): the agreement count stays
below K. And the stamps of successive accepted edges of a contact strictly increase (R27): a candidate that is younger
than a completion at `t` stays so, and an edge it gives is stamped after `t`. -/
def Obligations.FilterKeepsItsBounds : Prop :=
  (∀ (p : ContactProfile) (flash : Option FlashProfile) (s : Stamp) (i : ContactInput) (c c1 c2 c3 c4 : Contact)
     (t1 t2 t3 t4 stamp : Option Stamp) (e : SampleEvent),
     (i.lost = true → c1 = ⟨none, none, 0, none, false, c.profile, ⟨.steady, none, none, 0, none, none⟩⟩ ∧ t1 = some s) →
     (i.lost = false → c1 = c ∧ t1 = none) →
     leakCheck p s c1 = (c2, t2) →
     (i.sample = none → (c3, e) = (c2, .nothing)) → (∀ v, i.sample = some v → (c3, e) = takeSample p v s c2) →
     (e = .nothing → t3 = none) → (∀ x, e = .edge x ∨ e = .acquired x → t3 = some x) →
     (flash = none → c4 = c3 ∧ t4 = none) →
     (∀ f, flash = some f → c4 = { c3 with flash := c4.flash } ∧
       ((∀ x, e ≠ .edge x) → (c4.flash, t4) = silenceCheck f s c3.flash) ∧
       (∀ x v, e = .edge x → c3.accepted = some v → ∃ t5 t6 : Option Stamp,
         (silenceCheck f s c3.flash).2 = t5 ∧ flashEdge f v x (silenceCheck f s c3.flash).1 = (c4.flash, t6) ∧
         (t5 = none → t4 = t6) ∧ (∀ y, t5 = some y → t4 = some (max y (t6.getD y))))) →
     (stamp = none ↔ t1 = none ∧ t2 = none ∧ t3 = none ∧ t4 = none) →
     (∀ x, stamp = some x → (t1 = some x ∨ t2 = some x ∨ t3 = some x ∨ t4 = some x) ∧
       ∀ y, t1 = some y ∨ t2 = some y ∨ t3 = some y ∨ t4 = some y → y ≤ x) →
     filterContact p flash s i c = (c4, stamp)) ∧
  (∀ (p : ContactProfile) (flash : Option FlashProfile) (s : Stamp) (i : ContactInput) (c : Contact),
     1 ≤ p.depth → ContactBounded p c → ContactBounded p (filterContact p flash s i c).1) ∧
  (∀ (p : ContactProfile) (v : Level) (t s : Stamp) (c : Contact), t < s →
     (∀ k, c.candidate = some k → t < k.stamp) →
     (∀ k, (takeSample p v s c).1.candidate = some k → t < k.stamp) ∧
     (∀ e, (takeSample p v s c).2 = .edge e → t < e ∧ (takeSample p v s c).1.candidate = none))

/-- Chatter (R21, R30, R31, R32): what an edge counts, what a completion leaks, and that no completion both enters and
leaves CHATTERING. -/
def Obligations.ChatterIsCountedAndLeaks : Prop :=
  ∀ (p : ContactProfile) (c : Contact) (t s : Stamp),
    (p.limit = 0 ∨ p.flash ≠ none → countEdge p t c = c) ∧
    (p.limit ≠ 0 → p.flash = none → ∃ c', countEdge p t c = c' ∧
      c'.chatterCount = min (c.chatterCount + 1) 15 ∧ c'.leakRef = (if c.chatterCount = 0 then some t else c.leakRef) ∧
      (c'.chattering = true ↔ c.chattering = true ∨ p.limit ≤ c'.chatterCount) ∧
      c' = { c with chatterCount := c'.chatterCount, leakRef := c'.leakRef, chattering := c'.chattering }) ∧
    (∀ r, c.leakRef = some r → c.chatterCount ≠ 0 →
      (s < r + p.leak → leakCheck p s c = (c, none)) ∧
      (r + p.leak ≤ s → 1 < c.chatterCount →
        leakCheck p s c = ({ c with chatterCount := c.chatterCount - 1, leakRef := some (r + p.leak) }, none)) ∧
      (r + p.leak ≤ s → c.chatterCount = 1 →
        leakCheck p s c = ({ c with chatterCount := 0, leakRef := none, chattering := false },
          if c.chattering = true then some s else none))) ∧
    (∀ (flash : Option FlashProfile) (i : ContactInput), 2 ≤ p.limit → c.chattering = true →
      (leakCheck p s c).1.chattering = false → (filterContact p flash s i c).1.chattering = false)

/-- The silence check (R43). -/
def Obligations.SilenceIsFound : Prop :=
  ∀ (f : FlashProfile) (s : Stamp) (r : FlashRecord),
    (r.leading = none → r.trailing = none → silenceCheck f s r = (r, none)) ∧
    (∀ e : Stamp,
      ((∃ a b, r.leading = some a ∧ r.trailing = some b ∧ e = max a b) ∨
        (r.leading = some e ∧ r.trailing = none) ∨ (r.leading = none ∧ r.trailing = some e)) →
      (s - e ≤ f.pMax → silenceCheck f s r = (r, none)) ∧
      (f.pMax < s - e →
        (silenceCheck f s r).1 = ⟨.steady, none, none, 0, r.lastPeriod, r.lastOn⟩ ∧
        (r.cls = .steady → (silenceCheck f s r).2 = none) ∧
        (r.cls ≠ .steady → (silenceCheck f s r).2 = some s ∧
          ∀ (c : Contact) (l : Level) (inverted : Bool), c.flash = r → c.accepted = some l → c.chattering = false →
            lampView { c with flash := (silenceCheck f s r).1 } inverted
              = if l = activeLevel inverted then .lit else .dark)))

/-- Edges of a flash-profiled contact (R41, R44 to R47): a trailing edge is only stamped; a leading edge starts a
measurement, or ends a cycle that is measured and judged. And the contact is FLASHING only with F conforming cycles in a
row behind it and a cycle being measured, at every completion. -/
def Obligations.EdgesAreMeasured : Prop :=
  (∀ (f : FlashProfile) (v : Level) (t : Stamp) (r : FlashRecord),
     (v ≠ f.active → flashEdge f v t r = ({ r with trailing := some t }, none)) ∧
     (v = f.active → r.leading = none →
       flashEdge f v t r = ({ r with leading := some t, conforming := 0 }, none)) ∧
     (∀ lp w, v = f.active → r.leading = some lp → r.trailing = some w → ∀ conforms : Prop,
       (conforms ↔ (f.pMin ≤ t - lp ∧ t - lp ≤ f.pMax ∧ f.dMin ≤ 100 * (w - lp) / (t - lp) ∧
         100 * (w - lp) / (t - lp) ≤ f.dMax)) →
       (conforms → (r.cls = .flashing ∨ min (r.conforming + 1) 4 < f.confirm) →
         flashEdge f v t r
           = (⟨r.cls, some t, some w, min (r.conforming + 1) 4, some (t - lp), some (w - lp)⟩, none)) ∧
       (conforms → r.cls ≠ .flashing → f.confirm ≤ min (r.conforming + 1) 4 →
         flashEdge f v t r
           = (⟨.flashing, some t, some w, min (r.conforming + 1) 4, some (t - lp), some (w - lp)⟩, some t)) ∧
       (¬ conforms → r.cls ≠ .flashing →
         flashEdge f v t r = (⟨r.cls, some t, some w, 0, some (t - lp), some (w - lp)⟩, none)) ∧
       (¬ conforms → r.cls = .flashing →
         flashEdge f v t r = (⟨.irregular, some t, some w, 0, some (t - lp), some (w - lp)⟩, some t)))) ∧
  (∀ (p : ContactProfile) (f : FlashProfile) (s : Stamp) (i : ContactInput) (c : Contact), f.confirm ≤ 4 →
     (c.flash.cls = .flashing → f.confirm ≤ c.flash.conforming ∧ c.flash.leading ≠ none) →
     ((filterContact p (some f) s i c).1.flash.cls = .flashing →
       f.confirm ≤ (filterContact p (some f) s i c).1.flash.conforming ∧
         (filterContact p (some f) s i c).1.flash.leading ≠ none))

/-- DEFINE-PROFILE and ASSIGN-PROFILE (R22, R23, R24): the checks, the values as taken, the contacts assigned and how
many changed, what a change of the governing values makes of each, and the batch of those whose views change with it
(R35). -/
def Obligations.ProfilesTakeEffect : Prop :=
  (∀ (s : State) (tag : Octet) (p k h l flash : Nat), s.serves →
     (s.busy = true → exec (.defineProfile tag p k h l flash) s = .next (s.afterReply 0x98#8 tag .busy [])) ∧
     (s.busy = false → 15 < p ∨ (7 < flash ∧ flash ≠ 0xFF) →
       exec (.defineProfile tag p k h l flash) s = .next (s.afterReply 0x98#8 tag .badParam [])) ∧
     (s.busy = false → p ≤ 15 → flash ≤ 7 ∨ flash = 0xFF → ∀ new : ContactProfile,
       new = ⟨min (max k 1) 15, if h = 0 then 0 else min (max h 2) 15, min (max l 100) 10000 / 100 * 100,
         if flash = 0xFF then none else some flash⟩ →
       ∃ (contacts : List Contact) (u t : State), exec (.defineProfile tag p k h l flash) s = .next t ∧
         u = ({ s with filter := ⟨s.filter.profiles.set p new, contacts⟩ }).applyBatch
           (requestBatch s.time s.filter.contacts contacts) ∧
         t = State.finish s (u.afterReply 0x98#8 tag .ok
           ([oct new.depth, oct new.limit] ++ oct2 new.leak ++ [octNum new.flash])) ∧ u.link = s.link ∧
         contacts.length = s.filter.contacts.length ∧ t.filter = ⟨s.filter.profiles.set p new, contacts⟩ ∧
         (∀ c, (t.contact c).profile = (s.contact c).profile) ∧
         (∀ c, (s.contact c).profile ≠ p → t.contact c = s.contact c) ∧
         (∀ c, (s.contact c).profile = p → ProfileChanged (s.profile p) new (s.contact c) (t.contact c)) ∧
         t.scanner = s.scanner ∧ t.flash = s.flash ∧ t.table.index = s.table.index ∧ t.power = s.power ∧
         t.time = s.time ∧ t.straps = s.straps ∧ t.store = s.store ∧ t.press.inhibit = s.press.inhibit ∧
         t.pending = s.pending)) ∧
  (∀ (s : State) (tag : Octet) (first last p : Nat), s.serves → Shaped s →
     (s.busy = true → exec (.assignProfile tag first last p) s = .next (s.afterReply 0x99#8 tag .busy [])) ∧
     (s.busy = false → 15 < p ∨ 2047 < first ∨ 2047 < last ∨ last < first →
       exec (.assignProfile tag first last p) s = .next (s.afterReply 0x99#8 tag .badParam [])) ∧
     (s.busy = false → p ≤ 15 → first ≤ last → last ≤ 2047 →
       ∃ (contacts : List Contact) (u t : State), exec (.assignProfile tag first last p) s = .next t ∧
         u = (s.setContacts contacts).applyBatch (requestBatch s.time s.filter.contacts contacts) ∧
         t = State.finish s (u.afterReply 0x99#8 tag .ok (oct2 ((List.range 2048).countP
           (fun c => decide (first ≤ c) && decide (c ≤ last) && decide ((s.contact c).profile ≠ p))))) ∧
         u.link = s.link ∧ contacts.length = s.filter.contacts.length ∧ t.filter.contacts = contacts ∧
         (∀ c, first ≤ c → c ≤ last → (s.contact c).profile ≠ p →
           (t.contact c).profile = p ∧
             ProfileChanged (s.profile (s.contact c).profile) (s.profile p) (s.contact c) (t.contact c)) ∧
         (∀ c, c < first ∨ last < c ∨ (s.contact c).profile = p → t.contact c = s.contact c) ∧
         t.filter.profiles = s.filter.profiles ∧ t.scanner = s.scanner ∧ t.flash = s.flash ∧
         t.table.index = s.table.index ∧ t.power = s.power ∧ t.time = s.time ∧ t.straps = s.straps ∧
         t.store = s.store ∧ t.press.inhibit = s.press.inhibit ∧ t.pending = s.pending))

/-- DEFINE-FLASH (R38, R39): the checks, the values as taken, and, if a value changed, every governed contact cleared and
the batch of those whose lamp view changes with it (R35). -/
def Obligations.DefineFlashTakesEffect : Prop :=
  ∀ (s : State) (tag : Octet) (p a b c d f v : Nat), s.serves →
    (s.busy = true → exec (.defineFlash tag p a b c d f v) s = .next (s.afterReply 0x9A#8 tag .busy [])) ∧
    (s.busy = false → 7 < p ∨ 1 < v →
      exec (.defineFlash tag p a b c d f v) s = .next (s.afterReply 0x9A#8 tag .badParam [])) ∧
    (s.busy = false → p ≤ 7 → v ≤ 1 → ∀ new : FlashProfile,
      new = ⟨min (max a 100) 10000, min (max b 100) 10000, min (max c 1) 99, min (max d 1) 99, min (max f 1) 4,
        if v = 0 then .closed else .opened⟩ →
      (new.pMax < new.pMin ∨ new.dMax < new.dMin →
        exec (.defineFlash tag p a b c d f v) s = .next (s.afterReply 0x9A#8 tag .badParam [])) ∧
      (new.pMin ≤ new.pMax → new.dMin ≤ new.dMax → ∀ taken : List Octet,
        taken = oct2 new.pMin ++ oct2 new.pMax ++ [oct new.dMin, oct new.dMax, oct new.confirm, oct v] →
        (s.flash[p]? = some new →
          exec (.defineFlash tag p a b c d f v) s = .next (s.afterReply 0x9A#8 tag .ok (taken ++ oct2 0))) ∧
        (∀ old, s.flash[p]? = some old → old ≠ new →
          ∃ (contacts : List Contact) (u t : State), exec (.defineFlash tag p a b c d f v) s = .next t ∧
            u = (({ s with flash := s.flash.set p new }).setContacts contacts).applyBatch
              (requestBatch s.time s.filter.contacts contacts) ∧
            t = State.finish s (u.afterReply 0x9A#8 tag .ok
              (taken ++ oct2 (s.filter.contacts.countP (fun x => (s.profile x.profile).flash = some p)))) ∧
            u.link = s.link ∧ contacts.length = s.filter.contacts.length ∧ t.filter.contacts = contacts ∧
            t.flash = s.flash.set p new ∧
            (∀ x, (s.profile (s.contact x).profile).flash = some p →
              t.contact x = { s.contact x with flash := ⟨.steady, none, none, 0, none, none⟩ }) ∧
            (∀ x, (s.profile (s.contact x).profile).flash ≠ some p → t.contact x = s.contact x) ∧
            t.filter.profiles = s.filter.profiles ∧ t.scanner = s.scanner ∧ t.table.index = s.table.index ∧
            t.power = s.power ∧ t.time = s.time ∧ t.straps = s.straps ∧ t.store = s.store ∧
            t.press.inhibit = s.press.inhibit ∧ t.pending = s.pending)))

/-! ### Objects -/

/-- DEFINE-OBJECT and REMOVE-OBJECT (R54, R57, R58, R59): the checks in their order, the record an accepted definition
leaves, and the record erased. -/
def Obligations.DefinitionsAreWritten : Prop :=
  (∀ (s : State) (tag : Octet) (n kind urgency timing : Nat) (refs : List ReferenceField), s.serves →
     (s.busy = true →
       exec (.defineObject tag n kind urgency timing refs) s = .next (s.afterReply 0xA0#8 tag .busy [])) ∧
     (s.busy = false → 511 < n →
       exec (.defineObject tag n kind urgency timing refs) s = .next (s.afterReply 0xA0#8 tag .badParam [])) ∧
     (s.busy = false → n ≤ 511 → (s.object n).service = .inService →
       exec (.defineObject tag n kind urgency timing refs) s = .next (s.afterReply 0xA0#8 tag .badState [])) ∧
     (s.busy = false → n ≤ 511 → (s.object n).service ≠ .inService →
       ((¬ ∃ (k : Kind) (u : Urgency) (rs : List Reference), kind = k.code ∧ urgency = u.code ∧
           List.Forall₂ ReferenceField.names refs rs ∧ SoundReferences k rs) →
         exec (.defineObject tag n kind urgency timing refs) s = .next (s.afterReply 0xA0#8 tag .badParam [])) ∧
       (∀ (k : Kind) (u : Urgency) (rs : List Reference), kind = k.code → urgency = u.code →
         List.Forall₂ ReferenceField.names refs rs → SoundReferences k rs →
         exec (.defineObject tag n kind urgency timing refs) s = .next
           ((s.setObject n ⟨.outOfService, some ⟨k, rs, timingTaken k timing, u⟩,
             some ⟨.outOfService, none, ⟨false, false, false, false, false, false⟩⟩, none, none, none, none⟩).afterReply
             0xA0#8 tag .ok (oct2 (timingTaken k timing)))))) ∧
  (∀ (s : State) (tag : Octet) (n : Nat), s.serves →
     (s.busy = true → exec (.removeObject tag n) s = .next (s.afterReply 0xA1#8 tag .busy [])) ∧
     (s.busy = false → 511 < n → exec (.removeObject tag n) s = .next (s.afterReply 0xA1#8 tag .badParam [])) ∧
     (s.busy = false → n ≤ 511 → (s.object n).service ≠ .outOfService →
       exec (.removeObject tag n) s = .next (s.afterReply 0xA1#8 tag .badState [])) ∧
     (s.busy = false → n ≤ 511 → (s.object n).service = .outOfService →
       exec (.removeObject tag n) s = .next
         ((s.setObject n ⟨.undefined, none, none, none, none, none, none⟩).afterReply 0xA1#8 tag .ok [])))

/-- OBJECT-SERVICE in (R60): the checks in their order; and the object in service, in the reverse index, resolved at
once with cause SERVICE, the change handed to the journal and then to the press unit (R95), and answered with what it
presents. Where the resolution starts a timer, it is one that is not due already (R79 says what follows one that is). -/
def Obligations.ObjectGoesIntoService : Prop :=
  ∀ (s : State) (tag : Octet) (n : Nat), s.serves →
    (s.busy = true → exec (.objectServiceIn tag n) s = .next (s.afterReply 0xA2#8 tag .busy [])) ∧
    (s.busy = false → 511 < n → exec (.objectServiceIn tag n) s = .next (s.afterReply 0xA2#8 tag .badParam [])) ∧
    (s.busy = false → n ≤ 511 → (s.object n).service ≠ .outOfService →
      exec (.objectServiceIn tag n) s = .next (s.afterReply 0xA2#8 tag .badState [])) ∧
    (∀ d old k recorded latch p, s.busy = false → n ≤ 511 → Shaped s → (s.object n).service = .outOfService →
      (s.object n).definition = some d → (s.object n).presented = some old → (s.object n).timer = none →
      k = s.rule d old false → s.time < s.time + d.timing ∨ k.timer ≠ .start →
      recorded = recordedStamp (s.object n).lastStamp s.time →
      latch = nextLatch (s.object n).latch old.code k.code recorded →
      p = ⟨k.code, k.aspect, { k.attrs with latched := latch.isSome }⟩ →
      ∃ index : List IndexEntry, ∀ w u t : State,
        w = (s.setIndex index).setObject n ⟨.inService, some d, some p,
          if p = old then (s.object n).lastStamp else some recorded, if k.timer = .start then some (s.time + d.timing) else none,
          if p = old then (s.object n).latch else latch, (s.object n).dirty⟩ →
        (p = old → u = w) →
        (p ≠ old → ∀ c : Change, c = ⟨n, p, .service, recorded, changeLane d.urgency old.code p.code⟩ →
          u = (w.handChange c).handToPress [c]) →
        t = u.afterReply 0xA2#8 tag .ok p.octets →
        exec (.objectServiceIn tag n) s = .next t ∧
        (t.object n).service = .inService ∧ (t.object n).definition = some d ∧ (t.object n).presented = some p ∧
        (∀ m, m ≠ n → (s.object m).sameState (t.object m)) ∧ t.table.index = index ∧
        (∀ e, e ∈ index ↔ e ∈ s.table.index ∨ ∃ r ∈ d.refs, e = ⟨r.contact, n, d.kind.view, r.inverted⟩) ∧
        t.scanner = s.scanner ∧ t.filter = s.filter ∧ t.flash = s.flash ∧ t.power = s.power ∧ t.time = s.time ∧
        t.straps = s.straps ∧ t.store = s.store ∧ t.press.inhibit = s.press.inhibit ∧ t.pending = s.pending)

/-- OBJECT-SERVICE out (R62): the checks in their order; and the object out of service, out of the reverse index, its
timer gone, its definition and latch kept, its state written and stamped; the change, with cause SERVICE, is handed to
the journal and then to the press unit (R95). -/
def Obligations.ObjectGoesOutOfService : Prop :=
  ∀ (s : State) (tag : Octet) (n : Nat), s.serves →
    (s.busy = true → exec (.objectServiceOut tag n) s = .next (s.afterReply 0xA2#8 tag .busy [])) ∧
    (s.busy = false → 511 < n → exec (.objectServiceOut tag n) s = .next (s.afterReply 0xA2#8 tag .badParam [])) ∧
    (s.busy = false → n ≤ 511 → (s.object n).service ≠ .inService →
      exec (.objectServiceOut tag n) s = .next (s.afterReply 0xA2#8 tag .badState [])) ∧
    (s.busy = false → n ≤ 511 → Shaped s → (s.object n).service = .inService →
      ∀ (recorded : Stamp) (p : Presented) (w : State), recorded = recordedStamp (s.object n).lastStamp s.time →
      p = ⟨.outOfService, none, ⟨false, false, false, false, false, (s.object n).latch.isSome⟩⟩ →
      w = (s.setObject n ⟨.outOfService, (s.object n).definition, some p, some recorded, none, (s.object n).latch,
        (s.object n).dirty⟩).setIndex (s.table.index.filter (·.object ≠ n)) →
      ∃ u, exec (.objectServiceOut tag n) s = .next (u.afterReply 0xA2#8 tag .ok []) ∧
        (∀ d old c, (s.object n).definition = some d → (s.object n).presented = some old →
          c = Change.mk n p .service recorded (changeLane d.urgency old.code .outOfService) →
          u = (w.handChange c).handToPress [c]) ∧
        (∀ m, (w.object m).sameState (u.object m)) ∧ (∀ m, m ≠ n → (s.object m).sameState (u.object m)) ∧
        u.table.index = s.table.index.filter (·.object ≠ n) ∧ u.link = s.link ∧
        (∀ k op e, s.slot k = .watching op e → (∃ i ∈ op.expects, i.object = n) → k < 4 → k ∉ s.press.queue →
          u.hasPressEnd k op.tag ⟨.expectVoid, none, none, s.time⟩) ∧
        u.scanner = s.scanner ∧ u.filter = s.filter ∧ u.flash = s.flash ∧ u.power = s.power ∧ u.time = s.time ∧
        u.straps = s.straps ∧ u.store = s.store ∧ u.press.inhibit = s.press.inhibit ∧ u.pending = s.pending)

/-- CLEAR-LATCH for an object (R91): its answers; and the latch emptied, LATCHED gone, the rest of the record standing;
the change, with cause LATCH and its lane by R93, is handed to the journal and then to the press unit (R95). -/
def Obligations.ObjectLatchIsCleared : Prop :=
  ∀ (s : State) (tag : Octet) (n : Nat), s.serves →
    (511 < n → exec (.clearLatchObject tag n) s = .next (s.afterReply 0xA6#8 tag .badParam [])) ∧
    (n ≤ 511 → (s.object n).service = .undefined →
      exec (.clearLatchObject tag n) s = .next (s.afterReply 0xA6#8 tag .notDefined [])) ∧
    (∀ p, n ≤ 511 → (s.object n).service ≠ .undefined → (s.object n).presented = some p →
      (p.code.isAlarm = true → exec (.clearLatchObject tag n) s = .next (s.afterReply 0xA6#8 tag .stillActive [])) ∧
      (p.code.isAlarm = false → (s.object n).latch = none →
        exec (.clearLatchObject tag n) s = .next (s.afterReply 0xA6#8 tag .ok [])) ∧
      (p.code.isAlarm = false → (s.object n).latch ≠ none → Shaped s →
        ∀ (recorded : Stamp) (q : Presented) (w : State), recorded = recordedStamp (s.object n).lastStamp s.time →
        q = ⟨p.code, p.aspect, { p.attrs with latched := false }⟩ →
        w = s.setObject n ⟨(s.object n).service, (s.object n).definition, some q, some recorded, (s.object n).timer, none,
          (s.object n).dirty⟩ →
        ∃ u, exec (.clearLatchObject tag n) s = .next (u.afterReply 0xA6#8 tag .ok []) ∧
          (∀ d c, (s.object n).definition = some d →
            c = Change.mk n q .latch recorded (changeLane d.urgency p.code p.code) →
            u = (w.handChange c).handToPress [c]) ∧
          (∀ m, (w.object m).sameState (u.object m)) ∧ (∀ m, m ≠ n → (s.object m).sameState (u.object m)) ∧
          SameGround s u ∧ u.link = s.link))

/-- READ-DEFINITION (R68), CHECK (R97) and PRESS-STATUS (R144) answer what stands, and change nothing but the link. Then:
which check items are taken and what they name (R96, R97, R167), when one matches (R96), what CHECK says of one that does
not, and the 31 octets of a press slot (R169). Match
flags written 0x00 for a slot that does not watch are the model's choice (assumption 21). -/
def Obligations.DefinitionsChecksAndSlotsAreRead : Prop :=
  (∀ (s : State) (tag : Octet), s.serves →
     (∀ n, 511 < n → exec (.readDefinition tag n) s = .next (s.afterReply 0xA3#8 tag .badParam [])) ∧
     (∀ n, n ≤ 511 → (s.object n).service = .undefined →
       exec (.readDefinition tag n) s = .next (s.afterReply 0xA3#8 tag .notDefined [])) ∧
     (∀ n d, n ≤ 511 → (s.object n).service ≠ .undefined → (s.object n).definition = some d →
       exec (.readDefinition tag n) s = .next (s.afterReply 0xA3#8 tag .ok
         (oct2 n ++ [oct (s.object n).service.code, oct d.kind.code, oct d.urgency.code] ++ oct2 d.timing
           ++ oct d.refs.length
           :: d.refs.flatMap (fun r => oct2 r.contact ++ [oct r.role.code, oct (if r.inverted then 1 else 0)])))) ∧
     (∀ fields, 16 < fields.length ∨ (∃ f ∈ fields, 511 < f.object ∨ (∀ code : StateCode, f.code ≠ code.code) ∨
         (3 < f.aspect ∧ f.aspect ≠ 0xFF) ∨ 2 < f.flashing) →
       exec (.check tag fields) s = .next (s.afterReply 0xA5#8 tag .badParam [])) ∧
     (∀ fields items, fields.length ≤ 16 → readCheckItems fields = some items → ∀ missed,
       missed = items.filter (fun i => !s.itemMatches i) →
       exec (.check tag fields) s = .next (s.afterReply 0xA5#8 tag .ok
         (oct (if missed = [] then 1 else 0) :: oct missed.length :: missed.flatMap s.mismatchOctets)))) ∧
  (∀ (s : State) (tag : Octet) (k : Nat), s.serves →
     (3 < k → exec (.pressStatus tag k) s = .next (s.afterReply 0xB2#8 tag .badParam [])) ∧
     (k ≤ 3 → exec (.pressStatus tag k) s = .next (s.afterReply 0xB2#8 tag .ok (s.slotOctets k)))) ∧
  (∀ fields : List CheckItemField,
    (∀ items, readCheckItems fields = some items ↔ List.Forall₂ CheckItemField.names fields items) ∧
    (readCheckItems fields ≠ none ↔ ∀ f ∈ fields, f.object ≤ 511 ∧ (∃ code : StateCode, f.code = code.code) ∧
      (f.aspect ≤ 3 ∨ f.aspect = 0xFF) ∧ f.flashing ≤ 2)) ∧
  (∀ (s : State) (i : CheckItem),
    (s.itemMatches i = true ↔
      (s.object i.object).service = .inService ∧ ∃ p, (s.object i.object).presented = some p ∧ p.code = i.code ∧
        (∀ a, i.aspect = some a → p.aspect = some a) ∧
        (i.flashing = .steady → p.attrs.flashing = false) ∧ (i.flashing = .flashing → p.attrs.flashing = true)) ∧
    (∀ p, (s.object i.object).presented = some p →
      s.mismatchOctets i = oct2 i.object ++ oct (s.object i.object).service.code :: p.octets)) ∧
  (∀ (s : State) (k : Nat) (none2 none6 : List Octet), none2 = List.replicate 2 0xFF#8 → none6 = List.replicate 6 0xFF#8 →
    -- FREE and ENDED
    (s.slot k = .free none → s.slotOctets k = [oct 0, 0xFF#8, 0xFF#8] ++ none2 ++ List.replicate 4 0xFF#8 ++ none2 ++ none2
      ++ [0xFF#8] ++ none6 ++ [0xFF#8, 0#8, 0#8, 0xFF#8, 0#8] ++ none6) ∧
    (∀ rep : EndReport, ∀ report : List Octet,
      report = [oct rep.outcome.code, octNum rep.failing, oct (driverCode rep.cause)] ++ oct6 rep.stamp →
      (s.slot k = .free (some rep) → s.slotOctets k = [oct 0, 0xFF#8, 0xFF#8] ++ none2 ++ List.replicate 4 0xFF#8 ++ none2
        ++ none2 ++ [0xFF#8] ++ none6 ++ [0xFF#8, 0#8] ++ report) ∧
      (∀ tag, s.slot k = .ended tag rep → s.slotOctets k = [oct 6, 0xFF#8, 0xFF#8] ++ oct2 tag ++ List.replicate 4 0xFF#8
        ++ none2 ++ none2 ++ [0xFF#8] ++ none6 ++ [0xFF#8, 0#8] ++ report)) ∧
    -- active slots
    (∀ op : Operation, op.steps.length ≤ 4 → ∀ contents : List Octet,
      contents = oct2 op.tag ++ (op.steps.map oct ++ List.replicate (4 - op.steps.length) 0xFF#8) ++ oct2 op.gap
        ++ oct2 op.watch ++ [oct op.expects.length] →
      (∀ before after, s.slot k = .waiting op → s.press.queue = before ++ k :: after → k ∉ before →
        s.slotOctets k = [oct 1, oct op.step, oct op.steps.length] ++ contents ++ none6
          ++ [oct (before.length + 1), 0#8, 0#8, 0xFF#8, 0#8] ++ none6) ∧
      (∀ o, op.current = some o →
        (s.slot k = .driving op → s.slotOctets k = [oct 2, oct op.step, oct op.steps.length] ++ contents
          ++ octStamp (s.output o).pulseEnd ++ [0xFF#8, 0#8, 0#8, 0xFF#8, 0#8] ++ none6) ∧
        (s.slot k = .releasing op → s.slotOctets k = [oct 3, oct op.step, oct op.steps.length] ++ contents
          ++ octStamp (s.output o).windowEnd ++ [0xFF#8, 0#8, 0#8, 0xFF#8, 0#8] ++ none6)) ∧
      (∀ e, s.slot k = .gap op e → s.slotOctets k = [oct 4, oct op.step, oct op.steps.length] ++ contents ++ oct6 e
        ++ [0xFF#8, 0#8, 0#8, 0xFF#8, 0#8] ++ none6) ∧
      (∀ (e : Stamp) (flags : Octet), s.slot k = .watching op e → op.expects.length ≤ 8 →
        (∀ i, i < 8 → (flags.getLsbD i = true ↔ ∃ x, op.expects[i]? = some x ∧ s.itemMatches x = true)) →
        s.slotOctets k = [oct 5, 0xFF#8, 0xFF#8] ++ contents ++ oct6 e ++ [0xFF#8, flags, 0#8, 0xFF#8, 0#8] ++ none6)) ∧
    [PressOutcome.done, .timedOut, .expectVoid, .driverFault, .aborted, .inhibited].map PressOutcome.code
      = [1, 2, 3, 4, 5, 6])

/-- The rules of the kinds (R75, R78, R81 to R89). UNKNOWN comes first in every kind, takes the timer and fills no latch;
otherwise the rule of the object's kind is applied to the views of its roles as they stand (R52, R53), a SIGNAL's to its
aspects that are LIT, FLASHING or IRREGULAR (R85).
Then TRACK, where both references are known; POINTS, where a detection that chatters reads as INACTIVE; SIGNAL by its lit
aspects; INDICATION; RELAY. -/
def Obligations.KindsAreResolved : Prop :=
  (∀ (s : State) (d : Definition) (old : Presented) (expired : Bool) (r : Reference), r ∈ d.refs →
     s.accepted r.contact = none →
     s.rule d old expired = ⟨.unknown, none, ⟨false, false, false, false, false, false⟩, .cancel⟩ ∧
     ∀ n cause stamp (o : ObjectRecord),
       (resolveRecord n cause stamp o d old (s.rule d old expired)).1.timer = none ∧
       (resolveRecord n cause stamp o d old (s.rule d old expired)).1.latch = o.latch) ∧
  (∀ (s : State) (d : Definition) (old : Presented) (expired : Bool) (level : Reference → LevelView)
     (lamp : Reference → LampView), (∀ r, level r = levelView (s.contact r.contact) r.inverted) →
     (∀ r, lamp r = lampView (s.contact r.contact) r.inverted) → (d.refs.map (·.role)).Nodup →
     (∀ r ∈ d.refs, s.accepted r.contact ≠ none) → ∀ optional : Role → Option LevelView,
     (∀ r ∈ d.refs, optional r.role = some (level r)) → (∀ role, (∀ r ∈ d.refs, r.role ≠ role) → optional role = none) →
     (d.kind = .track → ∀ a ∈ d.refs, a.role = .clear →
       s.rule d old expired = trackRule (level a) (optional .back) old.code d.timing expired) ∧
     (d.kind = .points → ∀ a ∈ d.refs, ∀ b ∈ d.refs, a.role = .normalDetect → b.role = .reverseDetect →
       s.rule d old expired = pointsRule (level a) (level b) (optional .lock) old.code expired) ∧
     (d.kind = .signal → ∀ lit : List (Nat × LampView),
       lit = d.refs.filterMap (fun r =>
         if lamp r = .lit ∨ lamp r = .flashing ∨ lamp r = .irregular then
           (match r.role with
             | .aspect0 => some (0, lamp r)
             | .aspect1 => some (1, lamp r)
             | .aspect2 => some (2, lamp r)
             | .aspect3 => some (3, lamp r)
             | _ => none)
         else none) →
       s.rule d old expired = signalRule lit old d.timing expired) ∧
     (d.kind = .indication → ∀ a ∈ d.refs, a.role = .lamp → s.rule d old expired = indicationRule (lamp a)) ∧
     (d.kind = .relay → ∀ a ∈ d.refs, ∀ b ∈ d.refs, a.role = .front → b.role = .back →
       s.rule d old expired = relayRule (level a) (level b) old.code expired)) ∧
  (∀ (clear : LevelView) (back : Option LevelView) (held : StateCode) (timing : Nat) (expired : Bool),
     clear ≠ .unknown → back ≠ some .unknown →
     (clear = .chatter ∨ back = some .chatter → trackRule clear back held timing expired
       = ⟨.occupied, none, ⟨false, false, true, false, false, false⟩, .cancel⟩) ∧
     (clear = .active → back = some .active → trackRule clear back held timing expired
       = ⟨.contradiction, none, .empty, .cancel⟩) ∧
     (clear = .inactive → back ≠ some .chatter → trackRule clear back held timing expired
       = ⟨.occupied, none, .empty, .cancel⟩) ∧
     (clear = .active → back = none ∨ back = some .inactive →
       (held = .occupied → timing ≠ 0 → expired = false → trackRule clear back held timing expired
         = ⟨.occupied, none, .empty, .start⟩) ∧
       (held ≠ .occupied ∨ timing = 0 ∨ expired = true → trackRule clear back held timing expired
         = ⟨.clear, none, .empty, .cancel⟩))) ∧
  (∀ (normal reverse : LevelView) (lock : Option LevelView) (held : StateCode) (expired : Bool) (a : Attrs),
     a = { Attrs.empty with chatter := normal = .chatter || reverse = .chatter } →
     (normal = .active → reverse = .active →
       pointsRule normal reverse lock held expired = ⟨.contradiction, none, .empty, .cancel⟩) ∧
     (∀ b : Attrs, b = { a with locked := lock = some .active, free := lock ≠ none ∧ lock ≠ some .active } →
       (normal = .active → reverse ≠ .active →
         pointsRule normal reverse lock held expired = ⟨.normal, none, b, .cancel⟩) ∧
       (normal ≠ .active → reverse = .active →
         pointsRule normal reverse lock held expired = ⟨.reverse, none, b, .cancel⟩)) ∧
     (normal ≠ .active → reverse ≠ .active →
       (held = .lost → pointsRule normal reverse lock held expired = ⟨.lost, none, a, .cancel⟩) ∧
       (held = .moving → expired = true →
         pointsRule normal reverse lock held expired = ⟨.lost, none, a, .cancel⟩) ∧
       (held = .moving → expired = false →
         pointsRule normal reverse lock held expired = ⟨.moving, none, a, .keep⟩) ∧
       (held ≠ .lost → held ≠ .moving →
         pointsRule normal reverse lock held expired = ⟨.moving, none, a, .start⟩))) ∧
  ((∀ (n : Nat) (v : LampView) (old : Presented) (timing : Nat) (expired : Bool),
     signalRule [(n, v)] old timing expired
       = ⟨.showing, some n, ⟨v = .flashing, v = .irregular, false, false, false, false⟩, .cancel⟩) ∧
   (∀ (lit : List (Nat × LampView)) (old : Presented) (timing : Nat) (expired : Bool), lit.length ≠ 1 →
     (old.code = .showing → timing ≠ 0 → expired = false → signalRule lit old timing expired
       = ⟨.showing, old.aspect, ⟨old.attrs.flashing, old.attrs.irregular, false, false, false, false⟩, .start⟩) ∧
     (old.code ≠ .showing ∨ timing = 0 ∨ expired = true → signalRule lit old timing expired
       = ⟨if lit = [] then .dark else .contradiction, none, .empty, .cancel⟩)) ∧
   (indicationRule .lit = ⟨.on, none, .empty, .cancel⟩ ∧ indicationRule .dark = ⟨.off, none, .empty, .cancel⟩ ∧
     indicationRule .flashing = ⟨.flashing, none, .empty, .cancel⟩ ∧
     indicationRule .irregular = ⟨.irregular, none, .empty, .cancel⟩) ∧
   ∀ (front back : LevelView) (held : StateCode) (expired : Bool) (a : Attrs),
     a = { Attrs.empty with chatter := front = .chatter || back = .chatter } →
     (front = .active → back = .active → relayRule front back held expired = ⟨.fault, none, a, .cancel⟩) ∧
     (front = .active → back ≠ .active → relayRule front back held expired = ⟨.up, none, a, .cancel⟩) ∧
     (front ≠ .active → back = .active → relayRule front back held expired = ⟨.down, none, a, .cancel⟩) ∧
     (front ≠ .active → back ≠ .active →
       ((held = .up ∨ held = .down) → expired = false →
         relayRule front back held expired = ⟨held, none, a, .start⟩) ∧
       ((held ≠ .up ∧ held ≠ .down) ∨ expired = true →
         relayRule front back held expired = ⟨.fault, none, a, .cancel⟩)))

/-- One resolution (R73, R74, R77, R90): a record whose presented state stays gives no change; one whose presented state
changes is stamped, latched and handed on. Only an object in service is resolved (R71), by the rule of its kind, and its
change goes to the journal (R94). -/
def Obligations.ResolutionStampsAndLatches : Prop :=
  (∀ (s : State) (n : Nat) (cause : ChangeCause) (stamp : Stamp) (expired : Bool),
    ((s.object n).service ≠ .inService → s.resolve n cause stamp expired = (s, none)) ∧
    (∀ d old r, (s.object n).service = .inService → (s.object n).definition = some d →
      (s.object n).presented = some old →
      r = resolveRecord n cause stamp (s.object n) d old (s.rule d old expired) →
      (r.2 = none → s.resolve n cause stamp expired = (s.setObject n r.1, none)) ∧
      (∀ c, r.2 = some c → s.resolve n cause stamp expired = ((s.setObject n r.1).handChange c, some c)))) ∧
  ∀ (n : Nat) (cause : ChangeCause) (stamp : Stamp) (o : ObjectRecord) (d : Definition) (old : Presented)
    (k : KindOutcome) (recorded : Stamp) (latch : Option ObjectLatch) (new : Presented),
    recorded = (match o.lastStamp with | none => stamp | some t => max stamp t) →
    latch = (if o.latch = none ∧ k.code ≠ old.code ∧
        (k.code = .lost ∨ k.code = .contradiction ∨ k.code = .dark ∨ k.code = .fault ∨ k.code = .irregular)
      then some ⟨k.code, recorded⟩ else o.latch) →
    new = ⟨k.code, k.aspect, { k.attrs with latched := latch.isSome }⟩ →
    (recordedStamp o.lastStamp stamp = recorded ∧ nextLatch o.latch old.code k.code recorded = latch) ∧
    (resolveRecord n cause stamp o d old k).1.timer = (match k.timer with
      | .cancel => none
      | .keep => o.timer
      | .start => some (o.timer.getD (stamp + d.timing))) ∧
    (new = old → (resolveRecord n cause stamp o d old k).2 = none ∧
      (resolveRecord n cause stamp o d old k).1.presented = o.presented ∧
      (resolveRecord n cause stamp o d old k).1.lastStamp = o.lastStamp ∧
      (resolveRecord n cause stamp o d old k).1.latch = o.latch) ∧
    (new ≠ old →
      (resolveRecord n cause stamp o d old k).2
        = some ⟨n, new, cause, recorded, changeLane d.urgency old.code new.code⟩ ∧
      (resolveRecord n cause stamp o d old k).1.presented = some new ∧
      (resolveRecord n cause stamp o d old k).1.lastStamp = some recorded ∧
      (resolveRecord n cause stamp o d old k).1.latch = latch)

/-- The lane of a change (R93). -/
def Obligations.ChangeGetsItsLane : Prop :=
  (∀ c : StateCode, c.isAlarm = true ↔
    (c = .lost ∨ c = .contradiction ∨ c = .dark ∨ c = .fault ∨ c = .irregular ∨ c = .unknown)) ∧
  ∀ old new : StateCode,
    changeLane .allUrgent old new = .urgent ∧
    (old.isAlarm = true ∨ new.isAlarm = true → changeLane .normal old new = .urgent) ∧
    (old.isAlarm = false → new.isAlarm = false → changeLane .normal old new = .routine)

/-- OBJECT_TIMER_EXPIRY (R78): the timer that box time reaches goes, and the object is resolved from the views as they
stand, with the expiry time as cause stamp and cause TIMER in the change handed to the journal and then to the press unit
(R95); the outcome of an exhausted timer starts none anew. (A timer of POINTS runs in MOVING alone, R77, which
ObjectsStaySound keeps.) And what follows an event at its end (R79, R155): the transmitter chooses, and then every timer
the event started that is due already expires, each followed by another choice; that these go in ascending number, and
before the watches, is the model's choice (assumptions 13 and 14). -/
def Obligations.ObjectTimerExpires : Prop :=
  (∀ (s : State) (n : Nat) (e : Stamp) (d : Definition) (old : Presented) (r : ObjectRecord × Option Change) (w u : State),
    (s.object n).timer = some e → s.mayReach e → (s.object n).service = .inService →
    (s.object n).definition = some d → (s.object n).presented = some old → n < s.table.objects.length →
    r = resolveRecord n .timer e { s.object n with timer := none } d old (s.rule d old true) →
    w = (s.at e).setObject n r.1 →
    (r.2 = none → u = w) → (∀ c, r.2 = some c → u = (w.handChange c).handToPress [c]) →
    ∃ t, exec (.objectTimerExpiry n) s = .next t ∧ t = State.finish (s.at e) u ∧ (∀ c, r.2 = some c → c.cause = .timer) ∧
      ((d.kind = .points → old.code = .moving) →
        r.1.sameState (t.object n) ∧ (t.object n).timer = none ∧
        (∀ m, m ≠ n → (s.object m).sameState (t.object m)) ∧ SameGround (s.at e) t)) ∧
  (∀ before u : State, State.finish before u
    = (List.range 4).foldl (State.endZeroWatch before)
        ((List.range u.chooseFrame.table.objects.length).foldl (State.expireAtOnce before) u.chooseFrame)) ∧
  (∀ (before u : State) (n : Nat),
    (∀ e, (u.object n).timer = some e → e ≤ u.time → (before.object n).timer ≠ some e →
      State.expireAtOnce before u n = (u.expireTimer n e).chooseFrame) ∧
    ((∀ e, (u.object n).timer = some e → u.time < e ∨ (before.object n).timer = some e) →
      State.expireAtOnce before u n = u)) ∧
  (∀ (s : State) (n : Nat) (e : Stamp), (s.object n).timer = some e → e ≤ s.time →
    exec (.objectTimerExpiry n) s = .next (State.finish s (s.expireTimer n e)))

/-! ### Journal -/

/-- The admission of an item (R101 to R105): into a free place of a lane for which nothing is pending it goes as a
record at the tail; otherwise it is held, and its lane refilled. Pending for the URGENT lane are held MODULE and OUTPUT
items, and for each lane the ENDED slots and the dirty objects of that lane (R100). An object change is not taken while
the part is not RUNNING, and one of a dirty object folds into the mark, which an URGENT change upgrades. -/
def Obligations.ItemsAreAdmitted : Prop :=
  ∀ s : State,
    (∀ l, s.admits l = true ↔ (s.lane l).length < l.places ∧ s.pendingFor l = false) ∧
    (∀ l, s.pendingFor l = true ↔
      (l = .urgent ∧ ((∃ (n : Nat) (i : ModuleItem), s.journal.modulePending[n]? = some (some i)) ∨
        ∃ (n : Nat) (i : OutputItem), s.journal.outputPending[n]? = some (some i))) ∨
      (∃ k tag rep, s.slot k = .ended tag rep ∧
        l = (if rep.outcome = .done ∨ rep.outcome = .aborted then .routine else .urgent)) ∨
      ∃ n, (s.object n).dirty = some l) ∧
    (Lane.urgent.places = 32 ∧ Lane.routine.places = 224) ∧
    (∀ i : ModuleItem,
      (s.admits .urgent = true → s.handModule i = s.append .urgent (.module i)) ∧
      (s.admits .urgent = false → s.handModule i = (s.setModulePending i.slot (some i)).refill .urgent)) ∧
    (∀ i : OutputItem,
      (s.admits .urgent = true → s.handOutput i = s.append .urgent (.output i)) ∧
      (s.admits .urgent = false → s.handOutput i = (s.setOutputPending i.output (some i)).refill .urgent)) ∧
    (∀ (k tag : Nat) (rep : EndReport) (l : Lane),
      l = (if rep.outcome = .done ∨ rep.outcome = .aborted then .routine else .urgent) →
      (s.admits l = true → s.handPressEnd k tag rep
        = (s.append l (.pressEnd k tag rep.outcome rep.failing rep.stamp)).setSlot k (.free (some rep))) ∧
      (s.admits l = false → s.handPressEnd k tag rep = (s.setSlot k (.ended tag rep)).refill l)) ∧
    (∀ c : Change,
      (s.scanner.part ≠ .running → s.handChange c = s) ∧
      (s.scanner.part = .running → (s.object c.object).dirty = none → s.admits c.lane = true →
        s.handChange c = s.append c.lane (.change c.object c.presented c.cause c.stamp)) ∧
      (s.scanner.part = .running → (s.object c.object).dirty = none → s.admits c.lane = false →
        s.handChange c = (s.setDirty c.object (some c.lane)).refill c.lane) ∧
      (s.scanner.part = .running → (s.object c.object).dirty = some .routine → c.lane = .urgent →
        s.handChange c = (s.setDirty c.object (some .urgent)).refill .urgent) ∧
      (s.scanner.part = .running → (s.object c.object).dirty = some .urgent ∨
          ((s.object c.object).dirty = some .routine ∧ c.lane = .routine) → s.handChange c = s))

/-- A refill (R106): while its lane has a place it appends the first pending item, and it stops when the lane is full or
nothing is left that it may append. The first is a MODULE item, then an OUTPUT item, then a PRESS-END item, then, while
the part is RUNNING, a dirty object, each lowest number first, and the ROUTINE lane takes the last two alone. A held
item goes in as its record, an ENDED slot as its PRESS-END record and is FREE, a dirty object as a REFRESH of its
presented state and last stamp and is marked no longer (R103 to R107). A refill only appends. -/
def Obligations.RefillTakesInOrder : Prop :=
  (∀ (s : State) (modules outputs : Bool) (ends marks : Lane → Bool),
     (modules = true ↔ ∃ (n : Nat) (i : ModuleItem), s.journal.modulePending[n]? = some (some i)) →
     (outputs = true ↔ ∃ (n : Nat) (i : OutputItem), s.journal.outputPending[n]? = some (some i)) →
     (∀ l, ends l = true ↔ ∃ k tag rep, s.slot k = .ended tag rep ∧ rep.outcome.lane = l) →
     (∀ l, marks l = true ↔ s.scanner.part = .running ∧ ∃ n, (s.object n).dirty = some l) →
     (modules = true → ∃ (n : Nat) (i : ModuleItem), s.firstPending .urgent = some (.module n) ∧
       s.journal.modulePending[n]? = some (some i) ∧ ∀ (m : Nat) (j : ModuleItem), m < n → s.journal.modulePending[m]? ≠ some (some j)) ∧
     (modules = false → outputs = true → ∃ (n : Nat) (i : OutputItem), s.firstPending .urgent = some (.output n) ∧
       s.journal.outputPending[n]? = some (some i) ∧ ∀ (m : Nat) (j : OutputItem), m < n → s.journal.outputPending[m]? ≠ some (some j)) ∧
     (∀ l, (l = .urgent → modules = false ∧ outputs = false) →
       (ends l = true → ∃ k tag rep, s.firstPending l = some (.pressEnd k) ∧ s.slot k = .ended tag rep ∧
         rep.outcome.lane = l ∧ ∀ j tag' rep', j < k → s.slot j = .ended tag' rep' → rep'.outcome.lane ≠ l) ∧
       (ends l = false → marks l = true → ∃ n, s.firstPending l = some (.object n) ∧ (s.object n).dirty = some l ∧
         ∀ m, m < n → (s.object m).dirty ≠ some l) ∧
       (ends l = false → marks l = false → s.firstPending l = none))) ∧
  (∀ (s : State) (l : Lane),
     (∀ p, s.hasPlace l = true → s.firstPending l = some p → s.refill l = (s.appendPending l p).refill l) ∧
     (s.hasPlace l = false ∨ s.firstPending l = none → s.refill l = s) ∧
     (s.hasPlace l = true ↔ (s.lane l).length < l.places) ∧
     ((s.refill l).hasPlace l = false ∨ (s.refill l).firstPending l = none) ∧ (∀ m, s.lane m <+: (s.refill l).lane m)) ∧
  (∀ (s : State) (l : Lane) (n : Nat),
     (∀ i : ModuleItem, s.journal.modulePending[n]? = some (some i) →
       s.appendPending l (.module n) = (s.append l (.module i)).setModulePending n none) ∧
     (∀ i : OutputItem, s.journal.outputPending[n]? = some (some i) →
       s.appendPending l (.output n) = (s.append l (.output i)).setOutputPending n none) ∧
     (∀ tag rep, s.slot n = .ended tag rep → s.appendPending l (.pressEnd n)
       = (s.append l (.pressEnd n tag rep.outcome rep.failing rep.stamp)).setSlot n (.free (some rep))) ∧
     (∀ p, (s.object n).presented = some p →
       s.appendPending l (.object n) = (s.append l (.refresh n p (s.object n).lastStamp)).setDirty n none) ∧
     (∀ r, (s.append l r).lane l = s.lane l ++ [r] ∧ (∀ m, m ≠ l → (s.append l r).lane m = s.lane m) ∧
       (s.append l r).journal.modulePending = s.journal.modulePending ∧
       (s.append l r).journal.outputPending = s.journal.outputPending ∧ { s.append l r with journal := s.journal } = s))

/-- SYNC (R110): BAD-STATE unless the part is RUNNING; otherwise every IN-SERVICE object is dirty with a mark set or
upgraded by its state code, and both lanes are refilled before the reply is formed. -/
def Obligations.SyncMarksEveryObject : Prop :=
  ∀ (s : State) (tag : Octet), s.serves →
    (s.scanner.part ≠ .running → exec (.sync tag) s = .next (s.afterReply 0x86#8 tag .badState [])) ∧
    (s.scanner.part = .running → ∃ marked : State,
      exec (.sync tag) s = .next (((marked.refill .urgent).refill .routine).afterReply 0x86#8 tag .ok
        (oct2 (s.table.objects.countP (·.service = .inService)))) ∧
      s.markAll = (marked.refill .urgent).refill .routine ∧
      (∀ n, (s.object n).sameState (marked.object n)) ∧
      (∀ n, (s.object n).service ≠ .inService → (marked.object n).dirty = (s.object n).dirty) ∧
      (∀ n p, (s.object n).service = .inService → (s.object n).presented = some p →
        (p.code.isAlarm = true → (marked.object n).dirty = some .urgent) ∧
        (p.code.isAlarm = false → (marked.object n).dirty = some ((s.object n).dirty.getD .routine))) ∧
      marked.table.objects.length = s.table.objects.length ∧
      { marked with table := { marked.table with objects := s.table.objects } } = s)

/-- FETCH (R112): BAD-PARAM for another selection; otherwise the oldest records, URGENT first, leave their lanes, each
lane from which some were taken is refilled and no other, and the reply carries them, each in its 13 octets (R166). -/
def Obligations.FetchTakesTheOldest : Prop :=
  (∀ (n : Nat) (p : Presented) (shown : List Octet) (c : ChangeCause) (stamp : Stamp),
    shown = [oct p.code.code, octNum p.aspect, oct (bit p.attrs.flashing + 2 * bit p.attrs.irregular
      + 4 * bit p.attrs.chatter + 8 * bit p.attrs.locked + 16 * bit p.attrs.free + 32 * bit p.attrs.latched)] →
    (Record.change n p c stamp).octets = [oct 1] ++ oct2 n ++ shown ++ [oct c.code] ++ oct6 stamp ∧
    (∀ last, (Record.refresh n p last).octets = [oct 2] ++ oct2 n ++ shown ++ [oct 0] ++ octStamp last)) ∧
  (∀ i : ModuleItem, (Record.module i).octets
    = [oct 3] ++ oct2 i.slot ++ [oct i.state.code, 0xFF#8, oct 0, oct (causeCode i.cause)] ++ oct6 i.stamp) ∧
  (∀ i : OutputItem, (Record.output i).octets
    = [oct 4] ++ oct2 i.output ++ [oct i.state.code, 0xFF#8, oct 0, oct i.cause.code] ++ oct6 i.stamp) ∧
  (∀ k tag outcome failing stamp, (Record.pressEnd k tag outcome failing stamp).octets
    = [oct 5] ++ oct2 tag ++ [oct k, octNum failing, oct 0, oct outcome.code] ++ oct6 stamp) ∧
  ([ChangeCause.contact, .timer, .module, .service, .latch].map ChangeCause.code = [1, 2, 3, 4, 5] ∧
    [OutputCause.fault .stuck, .fault .noReadback, .fault .readbackLost, .cleared].map OutputCause.code = [1, 2, 3, 4]) ∧
  (∀ (s : State) (l : Lane) (n : Nat), (s.dropRecords l n).lane l = (s.lane l).drop n ∧
    (∀ m, m ≠ l → (s.dropRecords l n).lane m = s.lane m) ∧
    (s.dropRecords l n).journal.modulePending = s.journal.modulePending ∧
    (s.dropRecords l n).journal.outputPending = s.journal.outputPending ∧
    { s.dropRecords l n with journal := s.journal } = s) ∧
  ∀ (s : State) (tag : Octet) (selection count : Nat), s.serves →
    (1 < selection → exec (.fetch tag selection count) s = .next (s.afterReply 0x85#8 tag .badParam [])) ∧
    (selection ≤ 1 → ∀ (u r : List Record), u = (s.lane .urgent).take (min count 8) →
      r = (if selection = 1 then (s.lane .routine).take (min count 8 - u.length) else []) →
      ∀ v w t : State, v = (s.dropRecords .urgent u.length).dropRecords .routine r.length →
        w = (if u = [] then v else v.refill .urgent) → t = (if r = [] then w else w.refill .routine) →
        exec (.fetch tag selection count) s = .next (t.afterReply 0x85#8 tag .ok
          (oct u.length :: oct r.length :: (u.flatMap Record.octets ++ r.flatMap Record.octets))) ∧
        (s.lane .urgent).drop u.length <+: t.lane .urgent ∧ (s.lane .routine).drop r.length <+: t.lane .routine ∧
        (u ≠ [] → t.hasPlace .urgent = false ∨ t.firstPending .urgent = none) ∧
        (r ≠ [] → t.hasPlace .routine = false ∨ t.firstPending .routine = none) ∧
        (u = [] → r = [] → t = s) ∧ t.link = s.link ∧ SameRelays s t)

/-- FLOW (R114) and SET-MODE (R158): the routine hold and the link mode, and BAD-PARAM for any other value. SET-MODE is
served in ECHO mode too (R159). -/
def Obligations.HoldAndModeAreSet : Prop :=
  ∀ (s : State) (tag : Octet) (v : Nat),
    (s.serves →
      (1 < v → exec (.flow tag v) s = .next (s.afterReply 0x84#8 tag .badParam [])) ∧
      (v ≤ 1 → exec (.flow tag v) s
        = .next ((s.setLink { s.link with hold := decide (v = 1) }).afterReply 0x84#8 tag .ok [oct v]))) ∧
    (s.takesFrames = true → s.repliesFull = false →
      (2 < v → exec (.setMode tag v) s = .next (s.afterReply 0x83#8 tag .badParam [])) ∧
      (v ≤ 2 → exec (.setMode tag v) s = .next ((s.setLink { s.link with
        mode := if v = 0 then .polled else if v = 1 then .stream else .echo }).afterReply 0x83#8 tag .ok [oct v])))

/-! ### Press outputs and press operations -/

/-- DEFINE-OUTPUT (R119): the checks in their order, and the record written as a whole, or undefined with its other
fields kept. -/
def Obligations.DefineOutputWritesTheRecord : Prop :=
  ∀ (s : State) (tag : Octet) (o defined pulse readback sense : Nat), s.serves →
    (s.busy = true →
      exec (.defineOutput tag o defined pulse readback sense) s = .next (s.afterReply 0xB0#8 tag .busy [])) ∧
    (s.busy = false → 63 < o ∨ 1 < defined ∨ (2047 < readback ∧ readback ≠ 0xFFFF) ∨ 1 < sense →
      exec (.defineOutput tag o defined pulse readback sense) s = .next (s.afterReply 0xB0#8 tag .badParam [])) ∧
    (s.busy = false → o ≤ 63 → defined ≤ 1 → readback ≤ 2047 ∨ readback = 0xFFFF → sense ≤ 1 →
      ((s.output o).defined = true → (s.output o).state ≠ .idle →
        exec (.defineOutput tag o defined pulse readback sense) s = .next (s.afterReply 0xB0#8 tag .badState [])) ∧
      ((s.output o).defined = false ∨ (s.output o).state = .idle → ∀ taken : Nat,
        taken = min (max pulse 100) 2000 / 10 * 10 →
        exec (.defineOutput tag o defined pulse readback sense) s = .next
          ((s.setOutput o (if defined = 1
            then ⟨true, taken, if readback = 0xFFFF then none else some readback,
              if sense = 0 then .closed else .opened, .idle, none, none, none, none⟩
            else { s.output o with defined := false })).afterReply 0xB0#8 tag .ok (oct2 taken))))

/-- The checks of PRESS (R123), in their order; checks 4 to 7 name the first output at fault. -/
def Obligations.PressIsChecked : Prop :=
  ∀ (s : State) (tag : Octet) (deskTag : Nat) (steps : List Nat) (gap watch : Nat) (items : List CheckItemField),
    s.serves → ∀ answers : ResultCode → List Octet → Prop,
    (∀ r fields, answers r fields ↔
      exec (.press tag deskTag steps gap watch items) s = .next (s.afterReply 0xB1#8 tag r fields)) →
    (s.scanner.part ≠ .running → answers .badState []) ∧
    (s.scanner.part = .running → s.press.inhibit = true → answers .inhibited []) ∧
    (s.scanner.part = .running → s.press.inhibit = false →
      (steps = [] ∨ 4 < steps.length ∨ (∃ o ∈ steps, 63 < o) ∨ ¬ steps.Nodup ∨ 4 < items.length ∨
          readCheckItems items = none ∨ (∃ i ∈ items, (s.object i.object).service ≠ .inService) →
        answers .badParam []) ∧
      (steps ≠ [] → steps.length ≤ 4 → (∀ o ∈ steps, o ≤ 63) → steps.Nodup → items.length ≤ 4 →
        readCheckItems items ≠ none → (∀ i ∈ items, (s.object i.object).service = .inService) →
        (∀ o before after, steps = before ++ o :: after → (∀ x ∈ before, (s.output x).defined = true) →
          (s.output o).defined = false → answers .notDefined [oct o]) ∧
        ((∀ x ∈ steps, (s.output x).defined = true) →
          (∀ o before after, steps = before ++ o :: after → (∀ x ∈ before, (s.output x).state ≠ .faulted) →
            (s.output o).state = .faulted → answers .outputFault [oct o]) ∧
          ((∀ x ∈ steps, (s.output x).state ≠ .faulted) →
            (∀ o before after, steps = before ++ o :: after → (∀ x ∈ before, (s.output x).state = .idle) →
              (s.output o).state ≠ .idle → answers .claimed [oct o]) ∧
            ((∀ x ∈ steps, (s.output x).state = .idle) →
              (∀ o c before after, steps = before ++ o :: after →
                (∀ x ∈ before, ∀ c, (s.output x).readback = some c → s.accepted c ≠ none) →
                (s.output o).readback = some c → s.accepted c = none → answers .badState [oct o]) ∧
              ((∀ x ∈ steps, ∀ c, (s.output x).readback = some c → s.accepted c ≠ none) →
                (∀ x ∈ s.press.slots, x.isFree = false) → answers .noSlot []))))))

/-- An accepted PRESS (R124, R126, R128): the lowest FREE slot takes the operation, its outputs are CLAIMED, and step 1
is granted the lowest free permit at once if the queue is empty, and joins the queue otherwise. -/
def Obligations.PressIsAccepted : Prop :=
  ∀ (s : State) (tag : Octet) (deskTag : Nat) (first : Nat) (rest steps : List Nat) (gap watch : Nat)
    (items : List CheckItemField) (expects : List CheckItem) (k : Nat) (op : Operation), s.serves → Shaped s →
    s.scanner.part = .running → s.press.inhibit = false → steps = first :: rest → steps.length ≤ 4 →
    (∀ o ∈ steps, o ≤ 63) → steps.Nodup → items.length ≤ 4 → readCheckItems items = some expects →
    (∀ i ∈ expects, (s.object i.object).service = .inService) →
    (∀ o ∈ steps, (s.output o).defined = true ∧ (s.output o).state = .idle ∧
      ∀ c, (s.output o).readback = some c → s.accepted c ≠ none) →
    k ≤ 3 → (s.slot k).isFree = true → (∀ j, j < k → (s.slot j).isFree = false) →
    op = ⟨deskTag, steps, 1, min gap 2000, min watch 60000, expects⟩ →
    ∃ t, exec (.press tag deskTag steps gap watch items) s
        = .next (t.afterReply 0xB1#8 tag .ok (oct k :: (oct2 (min gap 2000) ++ oct2 (min watch 60000)))) ∧ t.link = s.link ∧
      (∀ o, o ∉ steps → t.output o = s.output o) ∧
      (∀ o ∈ rest, t.output o = { s.output o with state := .claimed, owner := some k }) ∧
      (∀ j, j ≠ k → t.slot j = s.slot j) ∧
      (∀ p, s.press.queue = [] → s.press.permits[p]? = some none →
        (∀ q : Nat, q < p → s.press.permits[q]? ≠ some none) →
        t.slot k = .driving op ∧ t.press.queue = [] ∧ t.press.permits = s.press.permits.set p (some k) ∧
        t.output first = { s.output first with
          state := .driven, owner := some k, pulseEnd := some (s.time + (s.output first).pulse) }) ∧
      (s.press.queue ≠ [] ∨ none ∉ s.press.permits →
        t.slot k = .waiting op ∧ t.press.queue = s.press.queue ++ [k] ∧ t.press.permits = s.press.permits ∧
        t.output first = { s.output first with state := .claimed, owner := some k }) ∧
      t.table = s.table ∧ t.journal = s.journal ∧ SameGround s t

/-- PULSE_END (R128, R129): the line, which is closed exactly while its output is DRIVEN (R120), opens; the permit goes
to the head of the queue, whose step closes its line, or becomes free (R127); and the readback is judged. Without a
readback the release completes at once and the slot goes on, as the statement on releases says. What is said holds
before the transmitter chooses and what is due at once follows, as ObjectTimerExpires says (R79, R155). -/
def Obligations.PulseEnds : Prop :=
  (∀ (s : State) (o : Nat), s.lineClosed o = true ↔ (s.output o).state = .driven) ∧
  ∀ (s : State) (o k : Nat) (d : Stamp) (op : Operation), Shaped s → o ≤ 63 → k ≤ 3 →
    (s.output o).state = .driven → (s.output o).owner = some k → (s.output o).pulseEnd = some d →
    (s.output o).windowEnd = none → s.mayReach d → s.slot k = .driving op → k ∉ s.press.queue → OthersWait s o →
    ∃ u, exec (.pulseEnd o) s = .next (State.finish (s.at d) u) ∧ SameGround (s.at d) u ∧ u.link = s.link ∧
      (∀ n, (s.object n).sameState (u.object n)) ∧
      (∀ c, (s.output o).readback = some c → s.accepted c = some (s.output o).sense →
        u.output o = { s.output o with state := .releasing, pulseEnd := none, windowEnd := some (d + 500) } ∧
        u.slot k = .releasing op) ∧
      (∀ c l, (s.output o).readback = some c → s.accepted c = some l → l ≠ (s.output o).sense →
        u.output o = { s.output o with
          state := .faulted, owner := none, pulseEnd := none, fault := some .noReadback } ∧
        u.hasOutputItem ⟨o, .faulted, .fault .noReadback, d⟩ ∧
        u.hasPressEnd k op.tag ⟨.driverFault, some o, some .noReadback, d⟩) ∧
      (∀ c, (s.output o).readback = some c → s.accepted c = none →
        u.output o = { s.output o with state := .idle, owner := none, pulseEnd := none } ∧
        u.hasPressEnd k op.tag ⟨.driverFault, some o, some .readbackLost, d⟩) ∧
      ((s.output o).readback = none →
        u = (((s.at d).setOutput o { s.output o with state := .claimed, pulseEnd := none }).releasePermit k).releaseDone k ∧
        (op.step < op.steps.length → op.gap ≠ 0 →
          u.output o = { s.output o with state := .claimed, pulseEnd := none } ∧
          u.slot k = .gap op (max s.time d + op.gap))) ∧
      (∀ p, s.press.permits.findIdx? (· = some k) = some p →
        (∀ x, x ≠ o → (s.output x).owner = some k → (s.output x).state ≠ .driven) →
        (s.output o).readback ≠ none ∨ (op.step < op.steps.length ∧ op.gap ≠ 0) →
        (s.press.queue = [] → u.press.permits = s.press.permits.set p none ∧ u.press.queue = []) ∧
        (∀ h tail waits x, s.press.queue = h :: tail → s.slot h = .waiting waits → waits.current = some x → h ≤ 3 →
          x ≤ 63 → (s.output x).owner = some h →
          u.press.permits = s.press.permits.set p (some h) ∧ u.press.queue = tail ∧ u.slot h = .driving waits ∧
          u.output x = { s.output x with
            state := .driven, pulseEnd := some (max s.time d + (s.output x).pulse) }))

/-- A permit that is released goes to the head of the queue, whose step closes its line for its pulse length, or becomes
free (R127, R128). A step that becomes due is granted the lowest free permit if the queue is empty, and its slot joins
the queue otherwise (R126). A completed release lets an owned output go back to CLAIMED and its slot go on to its gap,
its next step or its watch, and makes an output without owner IDLE (R132, R141). Entry to WATCHING returns the outputs
to IDLE and decides what it states (R134). At a hand-over of changes a slot that watches ends EXPECT-VOID where an
object it expects went out of service (R137), DONE where every expectation matches, stamped with the latest of those
changes and not before the watch began, and goes on otherwise (R135). Slots take a hand-over in ascending order: R137
gives it for EXPECT-VOID, and for several ends DONE it is the model's choice (assumption 30). -/
def Obligations.PermitsAndReleasesGoOn : Prop :=
  (∀ (s : State) (p k : Nat), s.press.permits.findIdx? (· = some k) = some p →
     (s.press.queue = [] → s.releasePermit k = s.setPermit p none) ∧
     (∀ h tail op o, s.press.queue = h :: tail → s.slot h = .waiting op → op.current = some o → Shaped s → o ≤ 63 → h ≤ 3 →
       ∃ t, s.releasePermit k = t ∧ t.press.queue = tail ∧ t.press.permits = s.press.permits.set p (some h) ∧
         t.slot h = .driving op ∧
         t.output o = { s.output o with state := .driven, pulseEnd := some (s.time + (s.output o).pulse) } ∧
         (∀ x, x ≠ o → t.output x = s.output x) ∧ (∀ j, j ≠ h → t.slot j = s.slot j) ∧
         t.table = s.table ∧ t.journal = s.journal ∧ t.link = s.link ∧ SameGround s t)) ∧
  (∀ (s : State) (k o : Nat) (op : Operation), k < s.press.slots.length → op.current = some o →
     (∀ p, s.press.queue = [] → s.press.permits[p]? = some none → (∀ q : Nat, q < p → s.press.permits[q]? ≠ some none) →
       s.stepDue k op = ((s.setOutput o { s.output o with
         state := .driven, pulseEnd := some (s.time + (s.output o).pulse) }).setSlot k (.driving op)).setPermit p (some k)) ∧
     (s.press.queue ≠ [] ∨ none ∉ s.press.permits →
       s.stepDue k op = (s.setSlot k (.waiting op)).setQueue (s.press.queue ++ [k]))) ∧
  (∀ (s : State) (k : Nat) (op : Operation), (s.slot k).operation = some op →
     (op.step < op.steps.length → op.gap ≠ 0 → s.releaseDone k = s.setSlot k (.gap op (s.time + op.gap))) ∧
     (op.step < op.steps.length → op.gap = 0 → s.releaseDone k = s.stepDue k { op with step := op.step + 1 }) ∧
     (op.steps.length ≤ op.step → ∀ u : State, u = s.unclaim k →
       ((∃ i ∈ op.expects, (u.object i.object).service ≠ .inService) →
         s.releaseDone k = u.endOperation k ⟨.expectVoid, none, none, s.time⟩) ∧
       (op.expects = [] → s.releaseDone k = u.endOperation k ⟨.done, none, none, s.time⟩) ∧
       (op.expects ≠ [] → (∀ i ∈ op.expects, (u.object i.object).service = .inService) → ∀ w : State,
         w = u.setSlot k (.watching op (s.time + op.watch)) →
         ((∀ i ∈ op.expects, w.itemMatches i = true) →
           s.releaseDone k = w.endOperation k ⟨.done, none, none, s.time⟩) ∧
         ((∃ i ∈ op.expects, w.itemMatches i = false) → s.releaseDone k = w)))) ∧
  (∀ (s : State) (k o : Nat),
     ((s.output o).owner = some k → (s.output o).state = .claimed → (s.unclaim k).output o
       = { s.output o with state := .idle, owner := none, pulseEnd := none, windowEnd := none }) ∧
     ((s.output o).owner ≠ some k ∨ (s.output o).state ≠ .claimed → (s.unclaim k).output o = s.output o) ∧
     (s.unclaim k).press.outputs.length = s.press.outputs.length ∧
     { s.unclaim k with press := { (s.unclaim k).press with outputs := s.press.outputs } } = s) ∧
  (∀ (s : State) (o : Nat),
     (∀ k, (s.output o).owner = some k → s.completeRelease o
       = (s.setOutput o { s.output o with state := .claimed, pulseEnd := none, windowEnd := none }).releaseDone k) ∧
     ((s.output o).owner = none → s.completeRelease o
       = s.setOutput o { s.output o with state := .idle, owner := none, pulseEnd := none, windowEnd := none })) ∧
  (∀ (s : State) (changes : List Change),
     s.handToPress changes = [0, 1, 2, 3].foldl (State.judgeWatch changes) s ∧
     ∀ k, ((s.slot k).isWatching = false → State.judgeWatch changes s k = s) ∧
       ∀ op e watched, s.slot k = .watching op e →
         watched = changes.filter (fun c => ∃ i ∈ op.expects, i.object = c.object) →
         (watched = [] → State.judgeWatch changes s k = s) ∧
         ((∃ c ∈ watched, c.presented.code = .outOfService) →
           State.judgeWatch changes s k = s.endOperation k ⟨.expectVoid, none, none, s.time⟩) ∧
         (watched ≠ [] → (∀ c ∈ watched, c.presented.code ≠ .outOfService) →
           (∀ stamp, (∀ i ∈ op.expects, s.itemMatches i = true) → e - op.watch ≤ stamp →
             (∀ c ∈ watched, c.stamp ≤ stamp) → (stamp = e - op.watch ∨ ∃ c ∈ watched, c.stamp = stamp) →
             State.judgeWatch changes s k = s.endOperation k ⟨.done, none, none, stamp⟩) ∧
           ((∃ i ∈ op.expects, s.itemMatches i = false) → State.judgeWatch changes s k = s)))

/-- WINDOW_EXPIRY (R131): the output is FAULTED by what its readback shows, and its operation, if it has one, ends. What
is said holds before the transmitter chooses, as ObjectTimerExpires says (R155). -/
def Obligations.WindowExpires : Prop :=
  ∀ (s : State) (o : Nat) (d : Stamp) (c : Nat) (cause : DriverCause), Shaped s → o ≤ 63 →
    (s.output o).state = .releasing → (s.output o).windowEnd = some d → (s.output o).pulseEnd = none →
    s.mayReach d → OthersWait s o → (s.output o).readback = some c →
    ((s.accepted c = some (s.output o).sense ∧ cause = .stuck) ∨ (s.accepted c = none ∧ cause = .readbackLost)) →
    ∃ u, exec (.windowExpiry o) s = .next (State.finish (s.at d) u) ∧ SameGround (s.at d) u ∧ u.link = s.link ∧
      (∀ n, (s.object n).sameState (u.object n)) ∧
      u.output o = { s.output o with state := .faulted, owner := none, windowEnd := none, fault := some cause } ∧
      u.hasOutputItem ⟨o, .faulted, .fault cause, d⟩ ∧
      (∀ k op, k ≤ 3 → (s.output o).owner = some k → (s.slot k).operation = some op →
        u.hasPressEnd k op.tag ⟨.driverFault, some o, some cause, d⟩) ∧
      ((s.output o).owner = none → (∀ p, p ≠ o → u.output p = s.output p) ∧ u.press.permits = s.press.permits ∧
        u.press.queue = s.press.queue)

/-- GAP_EXPIRY (R133, R126, R128): the next step becomes due. WATCH_EXPIRY (R136): the operation ends TIMED-OUT with the
watch expiry as its stamp, before the transmitter chooses. A watch time of 0 runs out at once: a slot that entered
WATCHING in an event and still watches at its end is TIMED-OUT then (R134, assumption 14). -/
def Obligations.GapsAndWatchesExpire : Prop :=
  (∀ (s : State) (k : Nat) (op next : Operation) (e : Stamp) (o : Nat), Shaped s → k ≤ 3 → s.slot k = .gap op e →
     s.mayReach e → next = { op with step := op.step + 1 } → next.current = some o → o ≤ 63 →
     ∃ t, exec (.gapExpiry k) s = .next t ∧ SameGround (s.at e) t ∧ (∀ n, (s.object n).sameState (t.object n)) ∧
       (∀ x, x ≠ o → t.output x = s.output x) ∧
       (∀ p, s.press.queue = [] → s.press.permits.findIdx? (· = none) = some p →
         t.slot k = .driving next ∧ t.press.permits = s.press.permits.set p (some k) ∧ t.press.queue = [] ∧
         t.output o = { s.output o with
           state := .driven, pulseEnd := some (max s.time e + (s.output o).pulse) }) ∧
       (s.press.queue ≠ [] ∨ none ∉ s.press.permits →
         t.slot k = .waiting next ∧ t.press.permits = s.press.permits ∧ t.press.queue = s.press.queue ++ [k] ∧
         t.output o = s.output o)) ∧
  (∀ (s : State) (k : Nat) (op : Operation) (e : Stamp), Shaped s → k ≤ 3 → s.slot k = .watching op e →
     s.mayReach e →
     ∃ u, exec (.watchExpiry k) s = .next (State.finish (s.at e) u) ∧
       u = (s.at e).endOperation k ⟨.timedOut, none, none, e⟩ ∧ u.hasPressEnd k op.tag ⟨.timedOut, none, none, e⟩ ∧
       SameGround (s.at e) u ∧ u.link = s.link ∧ (∀ n, (s.object n).sameState (u.object n)) ∧
       ((∀ o, (s.output o).owner ≠ some k) → u.press.outputs = s.press.outputs)) ∧
  (∀ (before u : State) (k : Nat),
     (∀ op e, u.slot k = .watching op e → op.watch = 0 → e ≤ u.time → (before.slot k).isWatching = false →
       State.endZeroWatch before u k = (u.endOperation k ⟨.timedOut, none, none, e⟩).chooseFrame) ∧
     ((∀ op e, u.slot k = .watching op e → op.watch ≠ 0 ∨ u.time < e ∨ (before.slot k).isWatching = true) →
       State.endZeroWatch before u k = u))

/-- PRESS-ABORT (R138, R139, R140): its refusals; and the end ABORTED, with every output of the slot dealt with, its
place in the permit queue given up, and the permit of a line that was closed released and granted to the head of the
queue. Then the end of an operation whatever its report, step by step (R138, R140): CLAIMED outputs to IDLE; the line of
the DRIVEN one opened, its permit released, and the output IDLE, or RELEASING without an owner; RELEASING outputs
disowned; the place in the queue given up; and the slot handed on as ItemsAreAdmitted says, which ends its gap or watch.
-/
def Obligations.PressIsAborted : Prop :=
  (∀ (s : State) (k : Nat) (op : Operation) (rep : EndReport) (a b : State), (s.slot k).operation = some op →
    a = s.unclaim k →
    ((∀ o, (s.output o).owner = some k → (s.output o).state ≠ .driven) → b = a) →
    (∀ o d, o < s.press.outputs.length → (s.output o).owner = some k → (s.output o).state = .driven →
      (∀ x, (s.output x).owner = some k → (s.output x).state = .driven → x = o) →
      d = (a.setOutput o { s.output o with
        state := .idle, owner := none, pulseEnd := none, windowEnd := none }).releasePermit k →
      (((s.output o).readback = none ∨ ∃ c l, (s.output o).readback = some c ∧ s.accepted c = some l ∧
        l ≠ (s.output o).sense) → b = d) ∧
      (∀ c, (s.output o).readback = some c → s.accepted c = none ∨ s.accepted c = some (s.output o).sense →
        b = d.setOutput o { s.output o with
          state := .releasing, owner := none, pulseEnd := none, windowEnd := some (rep.stamp + 500) })) →
    (∀ x y, (s.output x).owner = some k → (s.output x).state = .driven → (s.output y).owner = some k →
      (s.output y).state = .driven → x = y) →
    s.endOperation k rep
      = ((b.setOutputs (b.press.outputs.map
          (fun r => if r.owner = some k ∧ r.state = .releasing then { r with owner := none } else r))).setQueue
            (b.press.queue.filter (fun j => j ≠ k))).handPressEnd k op.tag rep) ∧
  ∀ (s : State) (tag : Octet) (k : Nat), s.serves →
    (3 < k → exec (.pressAbort tag k) s = .next (s.afterReply 0xB3#8 tag .badParam [])) ∧
    (k ≤ 3 → (s.slot k).operation = none →
      exec (.pressAbort tag k) s = .next (s.afterReply 0xB3#8 tag .badState [])) ∧
    (∀ op, k ≤ 3 → (s.slot k).operation = some op → Shaped s →
      ∃ t, exec (.pressAbort tag k) s = .next (t.afterReply 0xB3#8 tag .ok []) ∧
        t = s.endOperation k ⟨.aborted, none, none, s.time⟩ ∧ t.link = s.link ∧
        t.hasPressEnd k op.tag ⟨.aborted, none, none, s.time⟩ ∧ k ∉ t.press.queue ∧
        (∀ o, o ≤ 63 → (OthersWait s o ∨ ∀ p, (s.output p).owner = some k → (s.output p).state ≠ .driven) →
          ((s.output o).owner = some k → (s.output o).state = .claimed → t.output o = (s.output o).toIdle) ∧
          ((s.output o).owner = some k → (s.output o).state = .releasing →
            t.output o = { s.output o with owner := none }) ∧
          ((∀ p, (s.output p).owner = some k → (s.output p).state = .driven → p = o) →
            (s.output o).owner = some k → (s.output o).state = .driven →
            (((s.output o).readback = none ∨ ∃ c l, (s.output o).readback = some c ∧ s.accepted c = some l ∧
                l ≠ (s.output o).sense) → t.output o = (s.output o).toIdle) ∧
            (∀ c, (s.output o).readback = some c →
              s.accepted c = none ∨ s.accepted c = some (s.output o).sense →
              t.output o = { (s.output o).toIdle with state := .releasing, windowEnd := some (s.time + 500) })) ∧
          ((s.output o).owner ≠ some k → t.output o = s.output o)) ∧
        ((∀ o, (s.output o).owner = some k → (s.output o).state ≠ .driven) →
          t.press.permits = s.press.permits ∧ t.press.queue = s.press.queue.filter (fun j => j ≠ k)) ∧
        (∀ o p, o ≤ 63 → (s.output o).owner = some k → (s.output o).state = .driven →
          (∀ x, (s.output x).owner = some k → (s.output x).state = .driven → x = o) →
          s.press.permits.findIdx? (· = some k) = some p → k ∉ s.press.queue →
          (s.press.queue = [] → t.press.permits = s.press.permits.set p none ∧ t.press.queue = []) ∧
          (∀ h tail waits x, s.press.queue = h :: tail → s.slot h = .waiting waits → waits.current = some x → h ≤ 3 →
            x ≤ 63 → (s.output x).owner = some h →
            t.press.permits = s.press.permits.set p (some h) ∧ t.press.queue = tail ∧ t.slot h = .driving waits ∧
            t.output x = { s.output x with state := .driven, pulseEnd := some (s.time + (s.output x).pulse) })) ∧
        SameGround s t ∧ (∀ n, (s.object n).sameState (t.object n)))

/-- PRESS-INHIBIT (R122): on ends every operation that presses, in ascending slot order and each before the next, as
PressIsAborted says of an end, and leaves the watching ones; off is refused while the press-enable strap is open. -/
def Obligations.PressIsInhibited : Prop :=
  (∀ x : Slot, x.isPressing = true ↔ ∃ op, x = .waiting op ∨ x = .driving op ∨ x = .releasing op ∨ ∃ e, x = .gap op e) ∧
  ∀ (s : State) (tag : Octet), s.serves →
    (∀ u : State, u = [0, 1, 2, 3].foldl (fun x k =>
        if (x.slot k).isPressing = true then x.endOperation k ⟨.inhibited, none, none, s.time⟩ else x)
        (s.setInhibit true) →
      exec (.pressInhibitOn tag) s
        = .next (u.afterReply 0xB4#8 tag .ok [oct 1, oct (s.press.slots.countP (·.isPressing))]) ∧ u.link = s.link) ∧
    (Shaped s → QueueWaits s → ∃ t, exec (.pressInhibitOn tag) s = .next t ∧ t.press.inhibit = true ∧
      (∀ k, (t.slot k).isPressing = false) ∧
      (∀ k op, (s.slot k).operation = some op → (s.slot k).isPressing = true →
        t.hasPressEnd k op.tag ⟨.inhibited, none, none, s.time⟩) ∧
      (∀ k op e, s.slot k = .watching op e → t.slot k = s.slot k) ∧
      t.scanner = s.scanner ∧ t.filter = s.filter ∧ t.flash = s.flash ∧ t.table.index = s.table.index ∧
      t.power = s.power ∧ t.time = s.time ∧ t.straps = s.straps ∧ t.store = s.store ∧ t.pending = s.pending ∧
      (∀ n, (s.object n).sameState (t.object n))) ∧
    (s.straps.pressEnable = false →
      exec (.pressInhibitOff tag) s = .next (s.afterReply 0xB4#8 tag .inhibited [])) ∧
    (s.straps.pressEnable = true →
      exec (.pressInhibitOff tag) s = .next ((s.setInhibit false).afterReply 0xB4#8 tag .ok [oct 0, oct 0]))

/-- CLEAR-LATCH for an output (R143): its answers; and a FAULTED output whose readback does not hold the fault back to
IDLE, with its item. -/
def Obligations.OutputIsCleared : Prop :=
  ∀ (s : State) (tag : Octet) (o : Nat), s.serves →
    (63 < o → exec (.clearLatchOutput tag o) s = .next (s.afterReply 0xA6#8 tag .badParam [])) ∧
    (o ≤ 63 → (s.output o).defined = false →
      exec (.clearLatchOutput tag o) s = .next (s.afterReply 0xA6#8 tag .notDefined [])) ∧
    (o ≤ 63 → (s.output o).defined = true →
      ((s.output o).state ≠ .faulted → exec (.clearLatchOutput tag o) s = .next (s.afterReply 0xA6#8 tag .ok [])) ∧
      (∀ c, (s.output o).state = .faulted → (s.output o).readback = some c →
        s.accepted c = none ∨ s.accepted c = some (s.output o).sense →
        exec (.clearLatchOutput tag o) s = .next (s.afterReply 0xA6#8 tag .stillActive [])) ∧
      ((s.output o).state = .faulted → ((s.output o).readback = none ∨ ∃ c l, (s.output o).readback = some c ∧
          s.accepted c = some l ∧ l ≠ (s.output o).sense) → Shaped s →
        ∀ v u : State, v = s.setOutput o ⟨true, (s.output o).pulse, (s.output o).readback, (s.output o).sense, .idle, none,
            none, none, none⟩ → u = v.handOutput ⟨o, .idle, .cleared, s.time⟩ →
          exec (.clearLatchOutput tag o) s = .next (u.afterReply 0xA6#8 tag .ok []) ∧ SameRelays v u ∧ u.link = s.link ∧
          u.hasOutputItem ⟨o, .idle, .cleared, s.time⟩))

/-! ### The desk link and the configuration store -/

/-- FRAME_SENT (R155, R156, R162, R178): the next reply; or the reinitialisation of an accepted RESTART; or in STREAM
mode a REPORT of the URGENT lane, or of the ROUTINE lane while the hold is clear, whose summary is formed after the
refill; or a free transmitter. The same choice is made at the end of every event by a transmitter that is free, and by
none that is taken (assumption 13). That the RESTART's reply is the last in the queue is read from R162 (assumption 22);
that the image-valid indication is clear until the load is the model's choice (assumption 7). -/
def Obligations.FrameSentIsFollowed : Prop :=
  ∀ (s : State) (sent : Frame), s.link.sending = some sent →
    (∀ f fs, s.link.replies = f :: fs →
      exec .frameSent s = .next (s.setLink { s.link with replies := fs, sending := some f })) ∧
    (s.link.replies = [] → s.link.restarting = true → ∃ t, exec .frameSent s = .next t ∧
      t.power = .loading s.time ∧ t.time = s.time ∧ t.straps = s.straps ∧ t.pending = s.pending ∧
      t.store = ⟨.idle, s.store.image, false, none⟩ ∧ t.link = ⟨.hunting, [], none, .polled, false, false, false⟩ ∧
      (∀ l, t.lane l = []) ∧ t.pendingFlag = false ∧ t.table.index = [] ∧
      (∀ c, t.accepted c = none ∧ (t.contact c).candidate = none ∧ (t.contact c).chatterCount = 0) ∧
      (∀ o, t.lineClosed o = false ∧ (t.output o).owner = none ∧ (t.output o).fault = none) ∧
      (∀ k, t.slot k = .free none) ∧ t.press.permits = [none, none] ∧ t.press.queue = [] ∧ t.press.inhibit = true ∧
      t.scanner.scan = none ∧ t.scanner.lastSample = none) ∧
    (s.link.replies = [] → s.link.restarting = false →
      (∀ l : Lane, s.link.mode = .stream → s.lane l ≠ [] →
        (l = .routine → s.lane .urgent = [] ∧ s.link.hold = false) → ∀ u : State,
        u = (s.dropRecords l 8).refill l →
        exec .frameSent s = .next (u.setLink { s.link with
          dropped := false,
          sending := some ⟨0xF0#8, 0x00#8, u.summary ++ ((s.lane l).take 8).flatMap Record.octets⟩ })) ∧
      (s.link.mode ≠ .stream ∨ (s.lane .urgent = [] ∧ (s.link.hold = true ∨ s.lane .routine = [])) →
        exec .frameSent s = .next (s.setLink { s.link with sending := none })) ∧
      exec .frameSent s = .next (s.setLink { s.link with sending := none }).chooseFrame) ∧
    s.chooseFrame = s

/-- OCTET_RECEIVED on a part that operates (R148, R149, R150): what the receiver makes of each octet, and the valid frame
that the last one hands on. On a part that does not operate an octet has no effect (R161, assumption 4). -/
def Obligations.OctetsAreCollected : Prop :=
  (∀ (s : State) (o : Octet), s.power ≠ .operating → exec (.octetReceived o) s = .next s) ∧
  (∀ (s : State) (o : Octet) (r : Receiver), s.power = .operating →
    (receiveOctet s.time s.link.receiver o = (r, none) →
      exec (.octetReceived o) s = .next (s.setLink { s.link with receiver := r })) ∧
    ∀ f, receiveOctet s.time s.link.receiver o = (r, some f) →
      exec (.octetReceived o) s = .next ((s.setLink { s.link with receiver := r }).handFrame f)) ∧
  ∀ (s : State) (o : Octet), s.power = .operating →
    ∀ goes : Receiver → Prop,
    (∀ r, goes r ↔ exec (.octetReceived o) s = .next (s.setLink { s.link with receiver := r })) →
    (∀ first : Prop, (first ↔ s.link.receiver = .hunting ∨
        ∃ last len taken high, s.link.receiver = .collecting last len taken high ∧ last + 10 < s.time) →
      (first → o = 0xC5#8 → goes (.collecting s.time none [] none)) ∧
      (first → o ≠ 0xC5#8 → goes .hunting)) ∧
    (∀ last taken high, s.link.receiver = .collecting last none taken high → s.time ≤ last + 10 →
      (o.toNat < 2 ∨ 200 < o.toNat → goes .hunting) ∧
      (2 ≤ o.toNat → o.toNat ≤ 200 → goes (.collecting s.time (some o) [] none))) ∧
    (∀ last len taken high, s.link.receiver = .collecting last (some len) taken high → s.time ≤ last + 10 →
      (taken.length < len.toNat → goes (.collecting s.time (some len) (taken ++ [o]) none)) ∧
      (len.toNat ≤ taken.length → high = none → goes (.collecting s.time (some len) taken (some o))) ∧
      (∀ h, len.toNat ≤ taken.length → high = some h →
        (crc (len :: taken) ≠ h ++ o → goes .hunting) ∧
        (∀ kind tag body, taken = kind :: tag :: body → crc (len :: taken) = h ++ o →
          exec (.octetReceived o) s
            = .next ((s.setLink { s.link with receiver := .hunting }).handFrame ⟨kind, tag, body⟩))))

/-- What becomes of a valid frame that is not simply served (R151, R152, R154, R159): dropped with the flag set when
four replies wait, echoed in ECHO mode, answered UNKNOWN-KIND, or discarded for KIND 0x70; refused with BAD-PARAM where
its body does not fit the layout of its KIND (R151, R168), and where it holds a code of no row, after BUSY for an owner
that looks for BUSY first (R170, R176); and FRAME_DISCARDED brings the receiver back to HUNTING. A part that takes no
frames, because it does not operate or an accepted RESTART waits, discards every valid frame (R161, R162). That a frame
of KIND 0x70 too sets the flag when four replies wait is read from R151 against R152 (assumption 17). -/
def Obligations.FramesAreJudged : Prop :=
  (∀ s : State, (s.takesFrames = true ↔ s.power = .operating ∧ s.link.restarting = false) ∧
    (s.repliesFull = true ↔ 4 ≤ s.link.replies.length) ∧
    ∀ f : Frame, s.takesFrames = false → s.handFrame f = s ∧
      (∀ i, encodeRequest i = some f → exec i s = .next s) ∧ exec (.requestDropped f) s = .next s ∧
      exec (.unknownKind f) s = .next s ∧ exec (.echoFrame f) s = .next s) ∧
  (∀ (s : State) (f : Frame), s.serves →
    (decodeRequest f = .badLength → s.handFrame f = s.afterReply (f.kind + 0x80#8) f.tag .badParam []) ∧
    (∀ busyFirst, decodeRequest f = .badCode busyFirst → s.handFrame f = s.afterReply (f.kind + 0x80#8) f.tag
      (if busyFirst = true ∧ s.busy = true then .busy else .badParam) []) ∧
    (decodeRequest f = .notARequest → f.kind ≠ 0x70#8 →
      s.handFrame f = s.afterReply (f.kind + 0x80#8) f.tag .unknownKind [])) ∧
  (∀ f : Frame, (decodeRequest f = .notARequest ↔ f.kind ∉ requestKinds) ∧
    (∀ length : Nat, (f.kind, length) ∈ [(0x01#8, 0), (0x02#8, 0), (0x03#8, 1), (0x04#8, 1), (0x05#8, 2), (0x06#8, 0),
        (0x10#8, 2), (0x12#8, 2), (0x13#8, 2), (0x18#8, 6), (0x19#8, 5), (0x1A#8, 9), (0x1B#8, 3), (0x21#8, 2),
        (0x22#8, 3), (0x23#8, 2), (0x24#8, 3), (0x26#8, 3), (0x30#8, 7), (0x32#8, 1), (0x33#8, 1), (0x34#8, 1),
        (0x35#8, 2), (0x40#8, 0), (0x41#8, 0), (0x42#8, 0)] →
      (decodeRequest f = .badLength ↔ f.body.length ≠ length)) ∧
    (f.kind = 0x11#8 → (decodeRequest f = .badLength ↔
      ¬ ∃ n entries, f.body = n :: entries ∧ entries.length = 4 * n.toNat)) ∧
    (f.kind = 0x20#8 → (decodeRequest f = .badLength ↔
      ¬ ∃ first n refs, f.body = first ++ n :: refs ∧ first.length = 6 ∧ refs.length = 4 * n.toNat)) ∧
    (f.kind = 0x25#8 → (decodeRequest f = .badLength ↔
      ¬ ∃ n items, f.body = n :: items ∧ items.length = 5 * n.toNat)) ∧
    (f.kind = 0x31#8 → (decodeRequest f = .badLength ↔
      ¬ ∃ tag n steps times m items, f.body = tag ++ n :: (steps ++ times ++ m :: items) ∧ tag.length = 2 ∧
        steps.length = n.toNat ∧ times.length = 4 ∧ items.length = 5 * m.toNat)) ∧
    (∀ busyFirst, decodeRequest f = .badCode busyFirst ↔
      (f.kind = 0x12#8 ∧ busyFirst = true ∧ ∃ slot way, f.body = [slot, way] ∧ 1 < way.toNat) ∨
      (f.kind = 0x22#8 ∧ busyFirst = true ∧ ∃ h l way, f.body = [h, l, way] ∧ 1 < way.toNat) ∨
      (f.kind = 0x26#8 ∧ busyFirst = false ∧ ∃ target h l, f.body = [target, h, l] ∧
        (target = 0#8 ∨ 3 < target.toNat)) ∨
      (f.kind = 0x34#8 ∧ busyFirst = false ∧ ∃ on, f.body = [on] ∧ 1 < on.toNat))) ∧
  ∀ s : State,
    (∀ f, s.takesFrames = true → s.repliesFull = true →
      exec (.requestDropped f) s = .next (s.setLink { s.link with dropped := true }) ∧
      ∀ i, encodeRequest i = some f → exec i s = .next (s.setLink { s.link with dropped := true })) ∧
    (∀ f : Frame, s.serves → f.kind ∉ requestKinds →
      (f.kind ≠ 0x70#8 →
        exec (.unknownKind f) s = .next (s.afterReply (f.kind + 0x80#8) f.tag .unknownKind [])) ∧
      (f.kind = 0x70#8 → exec (.unknownKind f) s = .next s)) ∧
    (∀ f : Frame, s.takesFrames = true → s.repliesFull = false → s.link.mode = .echo → f.kind ≠ 0x03#8 →
      ∀ t : State, t = s.setLink (if s.link.sending.isSome = true
          then { s.link with replies := s.link.replies ++ [f] }
          else { s.link with replies := (s.link.replies ++ [f]).tail, sending := (s.link.replies ++ [f]).head? }) →
      exec (.echoFrame f) s = .next t ∧ ∀ i, encodeRequest i = some f → exec i s = .next t) ∧
    (∀ last len taken high, s.link.receiver = .collecting last len taken high →
      exec (.frameDiscarded .framingError) s = .next (s.setLink { s.link with receiver := .hunting }) ∧
      (s.time ≤ last + 10 → len = none →
        exec (.frameDiscarded .badLen) s = .next (s.setLink { s.link with receiver := .hunting })) ∧
      (s.time ≤ last + 10 → len ≠ none → high ≠ none →
        exec (.frameDiscarded .badCheck) s = .next (s.setLink { s.link with receiver := .hunting })) ∧
      (∀ late, last + 10 < s.time → exec (.frameDiscarded (.gap late)) s = .next (s.setLink { s.link with
        receiver := if late = 0xC5#8 then .collecting s.time none [] none else .hunting })))

/-- SAVE, its two events, and RESTART (R172, R174, R175, R176, R178): the snapshot and the erased image, the image
written, the comparison's two ends, and the restart that waits for its reply. The checksum covers every item of the
image in the order of R172's table, each in a form that the spec leaves open (assumption 11). That SAVE_WRITING_END
brings what the memory then holds, and that the comparison reads this, is the model's choice (assumption 12). -/
def Obligations.DefinitionsAreSaved : Prop :=
  (∀ c : ImageContents, imageCheck c = crc (Config.periodOctets c.period ++ (Config.toleranceOctets c.tolerance
    ++ (Config.mapOctets c.map ++ (c.profiles.flatMap Config.contactProfileOctets
    ++ (c.assignments.flatMap Config.assignmentOctets ++ (c.flashProfiles.flatMap Config.flashProfileOctets
    ++ (c.objects.flatMap Config.objectOctets ++ c.outputs.flatMap Config.outputOctets)))))))) ∧
  ∀ (s : State) (tag : Octet), (s.busy = true ↔ s.store.state = .busy) ∧
    (s.serves →
      (s.busy = true → exec (.save tag) s = .next (s.afterReply 0xC0#8 tag .busy []) ∧
        exec (.restart tag) s = .next (s.afterReply 0xC2#8 tag .busy [])) ∧
      (s.busy = false →
        exec (.restart tag) s
          = .next ((s.setLink { s.link with restarting := true }).afterReply 0xC2#8 tag .ok []) ∧
        ∃ snapshot : ImageContents,
          exec (.save tag) s = .next
            ((s.setStore ⟨.busy, .erased, false, some ⟨snapshot, .writing s.time⟩⟩).afterReply 0xC0#8 tag .ok []) ∧
          snapshot.period = s.scanner.period ∧ snapshot.tolerance = s.scanner.tolerance ∧
          snapshot.map = s.scanner.modules.map (fun m => ⟨m.slot, m.size, m.last⟩) ∧
          snapshot.profiles = s.filter.profiles ∧ snapshot.assignments = s.filter.contacts.map (·.profile) ∧
          snapshot.flashProfiles = s.flash ∧
          (∀ n : Nat, n < s.table.objects.length → ∀ d,
            ((s.object n).service = .undefined → snapshot.objects[n]? = some none) ∧
            ((s.object n).service = .inService → (s.object n).definition = some d →
              snapshot.objects[n]? = some (some ⟨d, true⟩)) ∧
            ((s.object n).service = .outOfService → (s.object n).definition = some d →
              snapshot.objects[n]? = some (some ⟨d, false⟩))) ∧
          (∀ o : Nat, o < s.press.outputs.length → snapshot.outputs[o]? = some (if (s.output o).defined = true
            then some ⟨(s.output o).pulse, (s.output o).readback, (s.output o).sense⟩ else none)))) ∧
    (∀ c since, s.store.save = some ⟨c, .writing since⟩ →
      exec (.saveWritingEnd none) s
        = .next (s.setStore { s.store with image := .intact c, save := some ⟨c, .readBack s.time⟩ }) ∧
      ∀ m, exec (.saveWritingEnd (some m)) s
        = .next (s.setStore { s.store with image := m, save := some ⟨c, .readBack s.time⟩ })) ∧
    (∀ c since, s.store.save = some ⟨c, .readBack since⟩ →
      (s.store.image = .intact c ∨ s.store.image = .other c (imageCheck c) →
        exec .saveCompletion s = .next (s.setStore ⟨.lastOk, s.store.image, true, none⟩)) ∧
      (s.store.image ≠ .intact c → s.store.image ≠ .other c (imageCheck c) →
        exec .saveCompletion s = .next (s.setStore ⟨.lastFailed, .erased, false, none⟩)))

/-! ### What holds of every frame and is kept by every step -/

/-- A frame sent octet by octet is received whole, whatever it carries (R148, R150, R164). An octet on the line is a
start bit, its eight data bits with the least significant first, and a stop bit; sampled so it is received, and with the
stop bit at the start level it is a framing error; a frame's octets follow each other without idle time; and the rate is
that of the two straps, which POWER_ON alone samples (R147). That a data bit of 1 stands at the stop level is presumed
(assumption 31). -/
def Obligations.FramesAreReceived : Prop :=
  (∀ (f : Frame) (now : Stamp), f.body.length ≤ 198 → receiveAll now .hunting (frameOctets f) = (.hunting, [f])) ∧
  (∀ o : Octet, (lineOctet o).length = 10 ∧ (lineOctet o)[0]? = some .start ∧ (lineOctet o)[9]? = some .stop ∧
    (∀ i, i < 8 → (lineOctet o)[i + 1]? = some (if o.getLsbD i = true then .stop else .start)) ∧
    sampleOctet (lineOctet o) = some (.octetReceived o) ∧
    ∀ data : List LineLevel, data.length = 8 →
      sampleOctet (.start :: data ++ [.start]) = some (.frameDiscarded .framingError)) ∧
  (∀ f : Frame, lineFrame f = (frameOctets f).flatMap lineOctet ∧
    frameOctets f = 0xC5#8 :: oct (f.body.length + 2) :: f.kind :: f.tag :: f.body
      ++ [(crc (oct (f.body.length + 2) :: f.kind :: f.tag :: f.body)).extractLsb' 8 8,
        (crc (oct (f.body.length + 2) :: f.kind :: f.tag :: f.body)).extractLsb' 0 8]) ∧
  (∀ (unit : Nat) (press ignore : Bool), Straps.bitRate ⟨false, false, unit, press, ignore⟩ = 38400 ∧
    Straps.bitRate ⟨false, true, unit, press, ignore⟩ = 115200 ∧
    Straps.bitRate ⟨true, false, unit, press, ignore⟩ = 230400 ∧
    Straps.bitRate ⟨true, true, unit, press, ignore⟩ = 460800) ∧
  (∀ (i : Instr) (s t : State), exec i s = .next t →
    t.straps = s.straps ∨ ∃ straps, i = .powerOn straps ∧ t.straps = straps)

/-- The requests of R168 read back from their frames: no field is dropped or moved; a request's frame is never too long;
and a valid frame of the line is served as the request it spells. Then each row of R168, its KIND and the octets of its
body field by field, two-octet fields with the most significant octet first (R163), entries as R167 gives them. -/
def Obligations.RequestsAreReadBack : Prop :=
  (∀ (i : Instr) (f : Frame), WellFormed i = true → encodeRequest i = some f →
    decodeRequest f = .request i ∧ f.body.length ≤ 198 ∧ f.kind ∈ requestKinds ∧
      ∀ s : State, exec i s = .next (s.handFrame f)) ∧
  ∀ (tag : Octet) (two : Nat → List Octet), (∀ n, two n = [oct (n / 256), oct n]) →
    (encodeRequest (.identify tag) = some ⟨0x01#8, tag, []⟩ ∧ encodeRequest (.readTime tag) = some ⟨0x02#8, tag, []⟩ ∧
      (∀ mode, encodeRequest (.setMode tag mode) = some ⟨0x03#8, tag, [oct mode]⟩) ∧
      (∀ hold, encodeRequest (.flow tag hold) = some ⟨0x04#8, tag, [oct hold]⟩) ∧
      (∀ selection count, encodeRequest (.fetch tag selection count) = some ⟨0x05#8, tag, [oct selection, oct count]⟩) ∧
      encodeRequest (.sync tag) = some ⟨0x06#8, tag, []⟩) ∧
    ((∀ period tol, encodeRequest (.setScan tag period tol) = some ⟨0x10#8, tag, [oct period, oct tol]⟩) ∧
      (∀ entries, encodeRequest (.defineModules tag entries) = some ⟨0x11#8, tag,
        oct entries.length :: entries.flatMap (fun e => [oct e.slot, oct e.size] ++ two e.last)⟩) ∧
      (∀ slot, encodeRequest (.moduleServiceOut tag slot) = some ⟨0x12#8, tag, [oct slot, oct 0]⟩) ∧
      (∀ slot, encodeRequest (.moduleServiceIn tag slot) = some ⟨0x12#8, tag, [oct slot, oct 1]⟩) ∧
      (∀ start count, encodeRequest (.readModules tag start count) = some ⟨0x13#8, tag, [oct start, oct count]⟩)) ∧
    ((∀ p k h l flash, encodeRequest (.defineProfile tag p k h l flash)
        = some ⟨0x18#8, tag, [oct p, oct k, oct h] ++ two l ++ [oct flash]⟩) ∧
      (∀ first last p, encodeRequest (.assignProfile tag first last p)
        = some ⟨0x19#8, tag, two first ++ two last ++ [oct p]⟩) ∧
      (∀ p pMin pMax dMin dMax confirm active, encodeRequest (.defineFlash tag p pMin pMax dMin dMax confirm active)
        = some ⟨0x1A#8, tag, [oct p] ++ two pMin ++ two pMax ++ [oct dMin, oct dMax, oct confirm, oct active]⟩) ∧
      (∀ start count, encodeRequest (.readContacts tag start count) = some ⟨0x1B#8, tag, two start ++ [oct count]⟩)) ∧
    ((∀ n kind urgency timing refs, encodeRequest (.defineObject tag n kind urgency timing refs)
        = some ⟨0x20#8, tag, two n ++ [oct kind, oct urgency] ++ two timing ++ [oct refs.length]
          ++ refs.flatMap (fun r => two r.contact ++ [oct r.role, oct r.invert])⟩) ∧
      (∀ n, encodeRequest (.removeObject tag n) = some ⟨0x21#8, tag, two n⟩) ∧
      (∀ n, encodeRequest (.objectServiceOut tag n) = some ⟨0x22#8, tag, two n ++ [oct 0]⟩) ∧
      (∀ n, encodeRequest (.objectServiceIn tag n) = some ⟨0x22#8, tag, two n ++ [oct 1]⟩) ∧
      (∀ n, encodeRequest (.readDefinition tag n) = some ⟨0x23#8, tag, two n⟩) ∧
      (∀ start count, encodeRequest (.readObjects tag start count) = some ⟨0x24#8, tag, two start ++ [oct count]⟩) ∧
      (∀ items, encodeRequest (.check tag items) = some ⟨0x25#8, tag, [oct items.length]
        ++ items.flatMap (fun x => two x.object ++ [oct x.code, oct x.aspect, oct x.flashing])⟩) ∧
      (∀ n, encodeRequest (.clearLatchObject tag n) = some ⟨0x26#8, tag, [oct 1] ++ two n⟩) ∧
      (∀ n, encodeRequest (.clearLatchModule tag n) = some ⟨0x26#8, tag, [oct 2] ++ two n⟩) ∧
      (∀ n, encodeRequest (.clearLatchOutput tag n) = some ⟨0x26#8, tag, [oct 3] ++ two n⟩)) ∧
    ((∀ o defined pulse readback sense, encodeRequest (.defineOutput tag o defined pulse readback sense)
        = some ⟨0x30#8, tag, [oct o, oct defined] ++ two pulse ++ two readback ++ [oct sense]⟩) ∧
      (∀ deskTag steps gap watch items, encodeRequest (.press tag deskTag steps gap watch items)
        = some ⟨0x31#8, tag, two deskTag ++ [oct steps.length] ++ steps.map oct ++ two gap ++ two watch
          ++ [oct items.length] ++ items.flatMap (fun x => two x.object ++ [oct x.code, oct x.aspect, oct x.flashing])⟩) ∧
      (∀ k, encodeRequest (.pressStatus tag k) = some ⟨0x32#8, tag, [oct k]⟩) ∧
      (∀ k, encodeRequest (.pressAbort tag k) = some ⟨0x33#8, tag, [oct k]⟩) ∧
      encodeRequest (.pressInhibitOff tag) = some ⟨0x34#8, tag, [oct 0]⟩ ∧
      encodeRequest (.pressInhibitOn tag) = some ⟨0x34#8, tag, [oct 1]⟩ ∧
      (∀ start count, encodeRequest (.readOutputs tag start count) = some ⟨0x35#8, tag, [oct start, oct count]⟩)) ∧
    (encodeRequest (.save tag) = some ⟨0x40#8, tag, []⟩ ∧ encodeRequest (.storeStatus tag) = some ⟨0x41#8, tag, []⟩ ∧
      encodeRequest (.restart tag) = some ⟨0x42#8, tag, []⟩)

/-- The URGENT lane never holds more than 32 records, the ROUTINE lane never more than 224 (R98), the reply queue never
more than 4 frames (R153). -/
def Obligations.QueuesStayBounded : Prop :=
  ∀ s t : State, LanesBounded s → RepliesBounded s → Machine.step s = .next t → LanesBounded t ∧ RepliesBounded t

/-- An object has a running timer only in service, in a state its kind holds under it (R77); a defined object has its
definition and presented state, with LATCHED exactly while its latch is held (R55). -/
def Obligations.ObjectsStaySound : Prop :=
  ∀ s t : State, TimersHold s → ObjectsWhole s → Machine.step s = .next t → TimersHold t ∧ ObjectsWhole t

/-- An object in service that references a contact whose view is UNKNOWN presents UNKNOWN (R75), whatever step the part
takes; the reverse index that this rests on stays whole (R64). -/
def Obligations.UnknownStaysPresented : Prop :=
  ∀ s t : State, ObjectsWhole s → IndexWhole s → UnknownPresented s → Machine.step s = .next t →
    IndexWhole t ∧ UnknownPresented t

/-- The press unit stays sound, whatever step the part takes (R118, R120, R125, R126); and in a sound press unit no more
than two outputs are DRIVEN, the permit queue holds no more than 4 entries, and in practice no more than two (R126),
each of them a slot that waits, and none for an output that is not CLAIMED. -/
def Obligations.PressUnitStaysSound : Prop :=
  (∀ s t : State, PressSound s → Machine.step s = .next t → PressSound t) ∧
  ∀ s : State, PressSound s → s.press.outputs.countP (·.state = .driven) ≤ 2 ∧ s.press.queue.length ≤ 4 ∧
    s.press.queue.length ≤ 2 ∧ QueueWaits s ∧ ∀ o, (s.output o).state ≠ .claimed → OthersWait s o

/-- No press output is DRIVEN while the press-enable strap is open, and none can come to be (R121). -/
def Obligations.LinesStayOpen : Prop :=
  ∀ s t : State, LinesHeldOpen s → Machine.step s = .next t → LinesHeldOpen t

/-- The journal gains no CHANGE or REFRESH record while the part is not RUNNING (R101). -/
def Obligations.NoObjectRecordsBeforeRunning : Prop :=
  ∀ s t : State, s.scanner.part ≠ .running → Machine.step s = .next t → t.scanner.part ≠ .running →
    ∀ l, t.objectRecords l <:+ s.objectRecords l
end

