-- ==== Sys2Proof/Laws/State.lean ====
section
/-! SUPPORT. What each named update of the state does to each field: one lemma per field, true by unfolding once. -/

namespace Sys2Proof.Machine

@[simp] theorem State.setObject_power (s : State) (n : Nat) (o : ObjectRecord) : (s.setObject n o).power = s.power := rfl
@[simp] theorem State.setObject_straps (s : State) (n : Nat) (o : ObjectRecord) : (s.setObject n o).straps = s.straps := rfl
@[simp] theorem State.setObject_time (s : State) (n : Nat) (o : ObjectRecord) : (s.setObject n o).time = s.time := rfl
@[simp] theorem State.setObject_scanner (s : State) (n : Nat) (o : ObjectRecord) : (s.setObject n o).scanner = s.scanner := rfl
@[simp] theorem State.setObject_filter (s : State) (n : Nat) (o : ObjectRecord) : (s.setObject n o).filter = s.filter := rfl
@[simp] theorem State.setObject_flash (s : State) (n : Nat) (o : ObjectRecord) : (s.setObject n o).flash = s.flash := rfl
@[simp] theorem State.setObject_table (s : State) (n : Nat) (o : ObjectRecord) : (s.setObject n o).table = { s.table with objects := s.table.objects.set n o } := rfl
@[simp] theorem State.setObject_journal (s : State) (n : Nat) (o : ObjectRecord) : (s.setObject n o).journal = s.journal := rfl
@[simp] theorem State.setObject_press (s : State) (n : Nat) (o : ObjectRecord) : (s.setObject n o).press = s.press := rfl
@[simp] theorem State.setObject_link (s : State) (n : Nat) (o : ObjectRecord) : (s.setObject n o).link = s.link := rfl
@[simp] theorem State.setObject_store (s : State) (n : Nat) (o : ObjectRecord) : (s.setObject n o).store = s.store := rfl
@[simp] theorem State.setObject_pending (s : State) (n : Nat) (o : ObjectRecord) : (s.setObject n o).pending = s.pending := rfl

@[simp] theorem State.setObjects_power (s : State) (os : List ObjectRecord) : (s.setObjects os).power = s.power := rfl
@[simp] theorem State.setObjects_straps (s : State) (os : List ObjectRecord) : (s.setObjects os).straps = s.straps := rfl
@[simp] theorem State.setObjects_time (s : State) (os : List ObjectRecord) : (s.setObjects os).time = s.time := rfl
@[simp] theorem State.setObjects_scanner (s : State) (os : List ObjectRecord) : (s.setObjects os).scanner = s.scanner := rfl
@[simp] theorem State.setObjects_filter (s : State) (os : List ObjectRecord) : (s.setObjects os).filter = s.filter := rfl
@[simp] theorem State.setObjects_flash (s : State) (os : List ObjectRecord) : (s.setObjects os).flash = s.flash := rfl
@[simp] theorem State.setObjects_table (s : State) (os : List ObjectRecord) : (s.setObjects os).table = { s.table with objects := os } := rfl
@[simp] theorem State.setObjects_journal (s : State) (os : List ObjectRecord) : (s.setObjects os).journal = s.journal := rfl
@[simp] theorem State.setObjects_press (s : State) (os : List ObjectRecord) : (s.setObjects os).press = s.press := rfl
@[simp] theorem State.setObjects_link (s : State) (os : List ObjectRecord) : (s.setObjects os).link = s.link := rfl
@[simp] theorem State.setObjects_store (s : State) (os : List ObjectRecord) : (s.setObjects os).store = s.store := rfl
@[simp] theorem State.setObjects_pending (s : State) (os : List ObjectRecord) : (s.setObjects os).pending = s.pending := rfl

@[simp] theorem State.setIndex_power (s : State) (x : List IndexEntry) : (s.setIndex x).power = s.power := rfl
@[simp] theorem State.setIndex_straps (s : State) (x : List IndexEntry) : (s.setIndex x).straps = s.straps := rfl
@[simp] theorem State.setIndex_time (s : State) (x : List IndexEntry) : (s.setIndex x).time = s.time := rfl
@[simp] theorem State.setIndex_scanner (s : State) (x : List IndexEntry) : (s.setIndex x).scanner = s.scanner := rfl
@[simp] theorem State.setIndex_filter (s : State) (x : List IndexEntry) : (s.setIndex x).filter = s.filter := rfl
@[simp] theorem State.setIndex_flash (s : State) (x : List IndexEntry) : (s.setIndex x).flash = s.flash := rfl
@[simp] theorem State.setIndex_table (s : State) (x : List IndexEntry) : (s.setIndex x).table = { s.table with index := x } := rfl
@[simp] theorem State.setIndex_journal (s : State) (x : List IndexEntry) : (s.setIndex x).journal = s.journal := rfl
@[simp] theorem State.setIndex_press (s : State) (x : List IndexEntry) : (s.setIndex x).press = s.press := rfl
@[simp] theorem State.setIndex_link (s : State) (x : List IndexEntry) : (s.setIndex x).link = s.link := rfl
@[simp] theorem State.setIndex_store (s : State) (x : List IndexEntry) : (s.setIndex x).store = s.store := rfl
@[simp] theorem State.setIndex_pending (s : State) (x : List IndexEntry) : (s.setIndex x).pending = s.pending := rfl

@[simp] theorem State.setDirty_power (s : State) (n : Nat) (m : Option Lane) : (s.setDirty n m).power = s.power := rfl
@[simp] theorem State.setDirty_straps (s : State) (n : Nat) (m : Option Lane) : (s.setDirty n m).straps = s.straps := rfl
@[simp] theorem State.setDirty_time (s : State) (n : Nat) (m : Option Lane) : (s.setDirty n m).time = s.time := rfl
@[simp] theorem State.setDirty_scanner (s : State) (n : Nat) (m : Option Lane) : (s.setDirty n m).scanner = s.scanner := rfl
@[simp] theorem State.setDirty_filter (s : State) (n : Nat) (m : Option Lane) : (s.setDirty n m).filter = s.filter := rfl
@[simp] theorem State.setDirty_flash (s : State) (n : Nat) (m : Option Lane) : (s.setDirty n m).flash = s.flash := rfl
@[simp] theorem State.setDirty_journal (s : State) (n : Nat) (m : Option Lane) : (s.setDirty n m).journal = s.journal := rfl
@[simp] theorem State.setDirty_press (s : State) (n : Nat) (m : Option Lane) : (s.setDirty n m).press = s.press := rfl
@[simp] theorem State.setDirty_link (s : State) (n : Nat) (m : Option Lane) : (s.setDirty n m).link = s.link := rfl
@[simp] theorem State.setDirty_store (s : State) (n : Nat) (m : Option Lane) : (s.setDirty n m).store = s.store := rfl
@[simp] theorem State.setDirty_pending (s : State) (n : Nat) (m : Option Lane) : (s.setDirty n m).pending = s.pending := rfl

@[simp] theorem State.setContacts_power (s : State) (x : List Contact) : (s.setContacts x).power = s.power := rfl
@[simp] theorem State.setContacts_straps (s : State) (x : List Contact) : (s.setContacts x).straps = s.straps := rfl
@[simp] theorem State.setContacts_time (s : State) (x : List Contact) : (s.setContacts x).time = s.time := rfl
@[simp] theorem State.setContacts_scanner (s : State) (x : List Contact) : (s.setContacts x).scanner = s.scanner := rfl
@[simp] theorem State.setContacts_filter (s : State) (x : List Contact) : (s.setContacts x).filter = { s.filter with contacts := x } := rfl
@[simp] theorem State.setContacts_flash (s : State) (x : List Contact) : (s.setContacts x).flash = s.flash := rfl
@[simp] theorem State.setContacts_table (s : State) (x : List Contact) : (s.setContacts x).table = s.table := rfl
@[simp] theorem State.setContacts_journal (s : State) (x : List Contact) : (s.setContacts x).journal = s.journal := rfl
@[simp] theorem State.setContacts_press (s : State) (x : List Contact) : (s.setContacts x).press = s.press := rfl
@[simp] theorem State.setContacts_link (s : State) (x : List Contact) : (s.setContacts x).link = s.link := rfl
@[simp] theorem State.setContacts_store (s : State) (x : List Contact) : (s.setContacts x).store = s.store := rfl
@[simp] theorem State.setContacts_pending (s : State) (x : List Contact) : (s.setContacts x).pending = s.pending := rfl

@[simp] theorem State.setProfile_power (s : State) (p : Nat) (x : ContactProfile) : (s.setProfile p x).power = s.power := rfl
@[simp] theorem State.setProfile_straps (s : State) (p : Nat) (x : ContactProfile) : (s.setProfile p x).straps = s.straps := rfl
@[simp] theorem State.setProfile_time (s : State) (p : Nat) (x : ContactProfile) : (s.setProfile p x).time = s.time := rfl
@[simp] theorem State.setProfile_scanner (s : State) (p : Nat) (x : ContactProfile) : (s.setProfile p x).scanner = s.scanner := rfl
@[simp] theorem State.setProfile_filter (s : State) (p : Nat) (x : ContactProfile) : (s.setProfile p x).filter = { s.filter with profiles := s.filter.profiles.set p x } := rfl
@[simp] theorem State.setProfile_flash (s : State) (p : Nat) (x : ContactProfile) : (s.setProfile p x).flash = s.flash := rfl
@[simp] theorem State.setProfile_table (s : State) (p : Nat) (x : ContactProfile) : (s.setProfile p x).table = s.table := rfl
@[simp] theorem State.setProfile_journal (s : State) (p : Nat) (x : ContactProfile) : (s.setProfile p x).journal = s.journal := rfl
@[simp] theorem State.setProfile_press (s : State) (p : Nat) (x : ContactProfile) : (s.setProfile p x).press = s.press := rfl
@[simp] theorem State.setProfile_link (s : State) (p : Nat) (x : ContactProfile) : (s.setProfile p x).link = s.link := rfl
@[simp] theorem State.setProfile_store (s : State) (p : Nat) (x : ContactProfile) : (s.setProfile p x).store = s.store := rfl
@[simp] theorem State.setProfile_pending (s : State) (p : Nat) (x : ContactProfile) : (s.setProfile p x).pending = s.pending := rfl

@[simp] theorem State.setFlash_power (s : State) (p : Nat) (x : FlashProfile) : (s.setFlash p x).power = s.power := rfl
@[simp] theorem State.setFlash_straps (s : State) (p : Nat) (x : FlashProfile) : (s.setFlash p x).straps = s.straps := rfl
@[simp] theorem State.setFlash_time (s : State) (p : Nat) (x : FlashProfile) : (s.setFlash p x).time = s.time := rfl
@[simp] theorem State.setFlash_scanner (s : State) (p : Nat) (x : FlashProfile) : (s.setFlash p x).scanner = s.scanner := rfl
@[simp] theorem State.setFlash_filter (s : State) (p : Nat) (x : FlashProfile) : (s.setFlash p x).filter = s.filter := rfl
@[simp] theorem State.setFlash_flash (s : State) (p : Nat) (x : FlashProfile) : (s.setFlash p x).flash = s.flash.set p x := rfl
@[simp] theorem State.setFlash_table (s : State) (p : Nat) (x : FlashProfile) : (s.setFlash p x).table = s.table := rfl
@[simp] theorem State.setFlash_journal (s : State) (p : Nat) (x : FlashProfile) : (s.setFlash p x).journal = s.journal := rfl
@[simp] theorem State.setFlash_press (s : State) (p : Nat) (x : FlashProfile) : (s.setFlash p x).press = s.press := rfl
@[simp] theorem State.setFlash_link (s : State) (p : Nat) (x : FlashProfile) : (s.setFlash p x).link = s.link := rfl
@[simp] theorem State.setFlash_store (s : State) (p : Nat) (x : FlashProfile) : (s.setFlash p x).store = s.store := rfl
@[simp] theorem State.setFlash_pending (s : State) (p : Nat) (x : FlashProfile) : (s.setFlash p x).pending = s.pending := rfl

@[simp] theorem State.setOutputs_power (s : State) (x : List OutputRecord) : (s.setOutputs x).power = s.power := rfl
@[simp] theorem State.setOutputs_straps (s : State) (x : List OutputRecord) : (s.setOutputs x).straps = s.straps := rfl
@[simp] theorem State.setOutputs_time (s : State) (x : List OutputRecord) : (s.setOutputs x).time = s.time := rfl
@[simp] theorem State.setOutputs_scanner (s : State) (x : List OutputRecord) : (s.setOutputs x).scanner = s.scanner := rfl
@[simp] theorem State.setOutputs_filter (s : State) (x : List OutputRecord) : (s.setOutputs x).filter = s.filter := rfl
@[simp] theorem State.setOutputs_flash (s : State) (x : List OutputRecord) : (s.setOutputs x).flash = s.flash := rfl
@[simp] theorem State.setOutputs_table (s : State) (x : List OutputRecord) : (s.setOutputs x).table = s.table := rfl
@[simp] theorem State.setOutputs_journal (s : State) (x : List OutputRecord) : (s.setOutputs x).journal = s.journal := rfl
@[simp] theorem State.setOutputs_press (s : State) (x : List OutputRecord) : (s.setOutputs x).press = { s.press with outputs := x } := rfl
@[simp] theorem State.setOutputs_link (s : State) (x : List OutputRecord) : (s.setOutputs x).link = s.link := rfl
@[simp] theorem State.setOutputs_store (s : State) (x : List OutputRecord) : (s.setOutputs x).store = s.store := rfl
@[simp] theorem State.setOutputs_pending (s : State) (x : List OutputRecord) : (s.setOutputs x).pending = s.pending := rfl

@[simp] theorem State.setOutput_power (s : State) (o : Nat) (x : OutputRecord) : (s.setOutput o x).power = s.power := rfl
@[simp] theorem State.setOutput_straps (s : State) (o : Nat) (x : OutputRecord) : (s.setOutput o x).straps = s.straps := rfl
@[simp] theorem State.setOutput_time (s : State) (o : Nat) (x : OutputRecord) : (s.setOutput o x).time = s.time := rfl
@[simp] theorem State.setOutput_scanner (s : State) (o : Nat) (x : OutputRecord) : (s.setOutput o x).scanner = s.scanner := rfl
@[simp] theorem State.setOutput_filter (s : State) (o : Nat) (x : OutputRecord) : (s.setOutput o x).filter = s.filter := rfl
@[simp] theorem State.setOutput_flash (s : State) (o : Nat) (x : OutputRecord) : (s.setOutput o x).flash = s.flash := rfl
@[simp] theorem State.setOutput_table (s : State) (o : Nat) (x : OutputRecord) : (s.setOutput o x).table = s.table := rfl
@[simp] theorem State.setOutput_journal (s : State) (o : Nat) (x : OutputRecord) : (s.setOutput o x).journal = s.journal := rfl
@[simp] theorem State.setOutput_press (s : State) (o : Nat) (x : OutputRecord) : (s.setOutput o x).press = { s.press with outputs := s.press.outputs.set o x } := rfl
@[simp] theorem State.setOutput_link (s : State) (o : Nat) (x : OutputRecord) : (s.setOutput o x).link = s.link := rfl
@[simp] theorem State.setOutput_store (s : State) (o : Nat) (x : OutputRecord) : (s.setOutput o x).store = s.store := rfl
@[simp] theorem State.setOutput_pending (s : State) (o : Nat) (x : OutputRecord) : (s.setOutput o x).pending = s.pending := rfl

@[simp] theorem State.setSlot_power (s : State) (k : Nat) (x : Slot) : (s.setSlot k x).power = s.power := rfl
@[simp] theorem State.setSlot_straps (s : State) (k : Nat) (x : Slot) : (s.setSlot k x).straps = s.straps := rfl
@[simp] theorem State.setSlot_time (s : State) (k : Nat) (x : Slot) : (s.setSlot k x).time = s.time := rfl
@[simp] theorem State.setSlot_scanner (s : State) (k : Nat) (x : Slot) : (s.setSlot k x).scanner = s.scanner := rfl
@[simp] theorem State.setSlot_filter (s : State) (k : Nat) (x : Slot) : (s.setSlot k x).filter = s.filter := rfl
@[simp] theorem State.setSlot_flash (s : State) (k : Nat) (x : Slot) : (s.setSlot k x).flash = s.flash := rfl
@[simp] theorem State.setSlot_table (s : State) (k : Nat) (x : Slot) : (s.setSlot k x).table = s.table := rfl
@[simp] theorem State.setSlot_journal (s : State) (k : Nat) (x : Slot) : (s.setSlot k x).journal = s.journal := rfl
@[simp] theorem State.setSlot_press (s : State) (k : Nat) (x : Slot) : (s.setSlot k x).press = { s.press with slots := s.press.slots.set k x } := rfl
@[simp] theorem State.setSlot_link (s : State) (k : Nat) (x : Slot) : (s.setSlot k x).link = s.link := rfl
@[simp] theorem State.setSlot_store (s : State) (k : Nat) (x : Slot) : (s.setSlot k x).store = s.store := rfl
@[simp] theorem State.setSlot_pending (s : State) (k : Nat) (x : Slot) : (s.setSlot k x).pending = s.pending := rfl

@[simp] theorem State.setPermit_power (s : State) (p : Nat) (k : Option Nat) : (s.setPermit p k).power = s.power := rfl
@[simp] theorem State.setPermit_straps (s : State) (p : Nat) (k : Option Nat) : (s.setPermit p k).straps = s.straps := rfl
@[simp] theorem State.setPermit_time (s : State) (p : Nat) (k : Option Nat) : (s.setPermit p k).time = s.time := rfl
@[simp] theorem State.setPermit_scanner (s : State) (p : Nat) (k : Option Nat) : (s.setPermit p k).scanner = s.scanner := rfl
@[simp] theorem State.setPermit_filter (s : State) (p : Nat) (k : Option Nat) : (s.setPermit p k).filter = s.filter := rfl
@[simp] theorem State.setPermit_flash (s : State) (p : Nat) (k : Option Nat) : (s.setPermit p k).flash = s.flash := rfl
@[simp] theorem State.setPermit_table (s : State) (p : Nat) (k : Option Nat) : (s.setPermit p k).table = s.table := rfl
@[simp] theorem State.setPermit_journal (s : State) (p : Nat) (k : Option Nat) : (s.setPermit p k).journal = s.journal := rfl
@[simp] theorem State.setPermit_press (s : State) (p : Nat) (k : Option Nat) : (s.setPermit p k).press = { s.press with permits := s.press.permits.set p k } := rfl
@[simp] theorem State.setPermit_link (s : State) (p : Nat) (k : Option Nat) : (s.setPermit p k).link = s.link := rfl
@[simp] theorem State.setPermit_store (s : State) (p : Nat) (k : Option Nat) : (s.setPermit p k).store = s.store := rfl
@[simp] theorem State.setPermit_pending (s : State) (p : Nat) (k : Option Nat) : (s.setPermit p k).pending = s.pending := rfl

@[simp] theorem State.setQueue_power (s : State) (q : List Nat) : (s.setQueue q).power = s.power := rfl
@[simp] theorem State.setQueue_straps (s : State) (q : List Nat) : (s.setQueue q).straps = s.straps := rfl
@[simp] theorem State.setQueue_time (s : State) (q : List Nat) : (s.setQueue q).time = s.time := rfl
@[simp] theorem State.setQueue_scanner (s : State) (q : List Nat) : (s.setQueue q).scanner = s.scanner := rfl
@[simp] theorem State.setQueue_filter (s : State) (q : List Nat) : (s.setQueue q).filter = s.filter := rfl
@[simp] theorem State.setQueue_flash (s : State) (q : List Nat) : (s.setQueue q).flash = s.flash := rfl
@[simp] theorem State.setQueue_table (s : State) (q : List Nat) : (s.setQueue q).table = s.table := rfl
@[simp] theorem State.setQueue_journal (s : State) (q : List Nat) : (s.setQueue q).journal = s.journal := rfl
@[simp] theorem State.setQueue_press (s : State) (q : List Nat) : (s.setQueue q).press = { s.press with queue := q } := rfl
@[simp] theorem State.setQueue_link (s : State) (q : List Nat) : (s.setQueue q).link = s.link := rfl
@[simp] theorem State.setQueue_store (s : State) (q : List Nat) : (s.setQueue q).store = s.store := rfl
@[simp] theorem State.setQueue_pending (s : State) (q : List Nat) : (s.setQueue q).pending = s.pending := rfl

@[simp] theorem State.setInhibit_power (s : State) (b : Bool) : (s.setInhibit b).power = s.power := rfl
@[simp] theorem State.setInhibit_straps (s : State) (b : Bool) : (s.setInhibit b).straps = s.straps := rfl
@[simp] theorem State.setInhibit_time (s : State) (b : Bool) : (s.setInhibit b).time = s.time := rfl
@[simp] theorem State.setInhibit_scanner (s : State) (b : Bool) : (s.setInhibit b).scanner = s.scanner := rfl
@[simp] theorem State.setInhibit_filter (s : State) (b : Bool) : (s.setInhibit b).filter = s.filter := rfl
@[simp] theorem State.setInhibit_flash (s : State) (b : Bool) : (s.setInhibit b).flash = s.flash := rfl
@[simp] theorem State.setInhibit_table (s : State) (b : Bool) : (s.setInhibit b).table = s.table := rfl
@[simp] theorem State.setInhibit_journal (s : State) (b : Bool) : (s.setInhibit b).journal = s.journal := rfl
@[simp] theorem State.setInhibit_press (s : State) (b : Bool) : (s.setInhibit b).press = { s.press with inhibit := b } := rfl
@[simp] theorem State.setInhibit_link (s : State) (b : Bool) : (s.setInhibit b).link = s.link := rfl
@[simp] theorem State.setInhibit_store (s : State) (b : Bool) : (s.setInhibit b).store = s.store := rfl
@[simp] theorem State.setInhibit_pending (s : State) (b : Bool) : (s.setInhibit b).pending = s.pending := rfl

@[simp] theorem State.setScanner_power (s : State) (x : Scanner) : (s.setScanner x).power = s.power := rfl
@[simp] theorem State.setScanner_straps (s : State) (x : Scanner) : (s.setScanner x).straps = s.straps := rfl
@[simp] theorem State.setScanner_time (s : State) (x : Scanner) : (s.setScanner x).time = s.time := rfl
@[simp] theorem State.setScanner_scanner (s : State) (x : Scanner) : (s.setScanner x).scanner = x := rfl
@[simp] theorem State.setScanner_filter (s : State) (x : Scanner) : (s.setScanner x).filter = s.filter := rfl
@[simp] theorem State.setScanner_flash (s : State) (x : Scanner) : (s.setScanner x).flash = s.flash := rfl
@[simp] theorem State.setScanner_table (s : State) (x : Scanner) : (s.setScanner x).table = s.table := rfl
@[simp] theorem State.setScanner_journal (s : State) (x : Scanner) : (s.setScanner x).journal = s.journal := rfl
@[simp] theorem State.setScanner_press (s : State) (x : Scanner) : (s.setScanner x).press = s.press := rfl
@[simp] theorem State.setScanner_link (s : State) (x : Scanner) : (s.setScanner x).link = s.link := rfl
@[simp] theorem State.setScanner_store (s : State) (x : Scanner) : (s.setScanner x).store = s.store := rfl
@[simp] theorem State.setScanner_pending (s : State) (x : Scanner) : (s.setScanner x).pending = s.pending := rfl

@[simp] theorem State.setModules_power (s : State) (x : List ModuleRecord) : (s.setModules x).power = s.power := rfl
@[simp] theorem State.setModules_straps (s : State) (x : List ModuleRecord) : (s.setModules x).straps = s.straps := rfl
@[simp] theorem State.setModules_time (s : State) (x : List ModuleRecord) : (s.setModules x).time = s.time := rfl
@[simp] theorem State.setModules_scanner (s : State) (x : List ModuleRecord) : (s.setModules x).scanner = { s.scanner with modules := x } := rfl
@[simp] theorem State.setModules_filter (s : State) (x : List ModuleRecord) : (s.setModules x).filter = s.filter := rfl
@[simp] theorem State.setModules_flash (s : State) (x : List ModuleRecord) : (s.setModules x).flash = s.flash := rfl
@[simp] theorem State.setModules_table (s : State) (x : List ModuleRecord) : (s.setModules x).table = s.table := rfl
@[simp] theorem State.setModules_journal (s : State) (x : List ModuleRecord) : (s.setModules x).journal = s.journal := rfl
@[simp] theorem State.setModules_press (s : State) (x : List ModuleRecord) : (s.setModules x).press = s.press := rfl
@[simp] theorem State.setModules_link (s : State) (x : List ModuleRecord) : (s.setModules x).link = s.link := rfl
@[simp] theorem State.setModules_store (s : State) (x : List ModuleRecord) : (s.setModules x).store = s.store := rfl
@[simp] theorem State.setModules_pending (s : State) (x : List ModuleRecord) : (s.setModules x).pending = s.pending := rfl

@[simp] theorem State.setJournal_power (s : State) (x : Journal) : (s.setJournal x).power = s.power := rfl
@[simp] theorem State.setJournal_straps (s : State) (x : Journal) : (s.setJournal x).straps = s.straps := rfl
@[simp] theorem State.setJournal_time (s : State) (x : Journal) : (s.setJournal x).time = s.time := rfl
@[simp] theorem State.setJournal_scanner (s : State) (x : Journal) : (s.setJournal x).scanner = s.scanner := rfl
@[simp] theorem State.setJournal_filter (s : State) (x : Journal) : (s.setJournal x).filter = s.filter := rfl
@[simp] theorem State.setJournal_flash (s : State) (x : Journal) : (s.setJournal x).flash = s.flash := rfl
@[simp] theorem State.setJournal_table (s : State) (x : Journal) : (s.setJournal x).table = s.table := rfl
@[simp] theorem State.setJournal_journal (s : State) (x : Journal) : (s.setJournal x).journal = x := rfl
@[simp] theorem State.setJournal_press (s : State) (x : Journal) : (s.setJournal x).press = s.press := rfl
@[simp] theorem State.setJournal_link (s : State) (x : Journal) : (s.setJournal x).link = s.link := rfl
@[simp] theorem State.setJournal_store (s : State) (x : Journal) : (s.setJournal x).store = s.store := rfl
@[simp] theorem State.setJournal_pending (s : State) (x : Journal) : (s.setJournal x).pending = s.pending := rfl

@[simp] theorem State.append_power (s : State) (l : Lane) (r : Record) : (s.append l r).power = s.power := rfl
@[simp] theorem State.append_straps (s : State) (l : Lane) (r : Record) : (s.append l r).straps = s.straps := rfl
@[simp] theorem State.append_time (s : State) (l : Lane) (r : Record) : (s.append l r).time = s.time := rfl
@[simp] theorem State.append_scanner (s : State) (l : Lane) (r : Record) : (s.append l r).scanner = s.scanner := rfl
@[simp] theorem State.append_filter (s : State) (l : Lane) (r : Record) : (s.append l r).filter = s.filter := rfl
@[simp] theorem State.append_flash (s : State) (l : Lane) (r : Record) : (s.append l r).flash = s.flash := rfl
@[simp] theorem State.append_table (s : State) (l : Lane) (r : Record) : (s.append l r).table = s.table := rfl
@[simp] theorem State.append_journal (s : State) (l : Lane) (r : Record) : (s.append l r).journal = s.journal.setLane l (s.lane l ++ [r]) := rfl
@[simp] theorem State.append_press (s : State) (l : Lane) (r : Record) : (s.append l r).press = s.press := rfl
@[simp] theorem State.append_link (s : State) (l : Lane) (r : Record) : (s.append l r).link = s.link := rfl
@[simp] theorem State.append_store (s : State) (l : Lane) (r : Record) : (s.append l r).store = s.store := rfl
@[simp] theorem State.append_pending (s : State) (l : Lane) (r : Record) : (s.append l r).pending = s.pending := rfl

@[simp] theorem State.dropRecords_power (s : State) (l : Lane) (n : Nat) : (s.dropRecords l n).power = s.power := rfl
@[simp] theorem State.dropRecords_straps (s : State) (l : Lane) (n : Nat) : (s.dropRecords l n).straps = s.straps := rfl
@[simp] theorem State.dropRecords_time (s : State) (l : Lane) (n : Nat) : (s.dropRecords l n).time = s.time := rfl
@[simp] theorem State.dropRecords_scanner (s : State) (l : Lane) (n : Nat) : (s.dropRecords l n).scanner = s.scanner := rfl
@[simp] theorem State.dropRecords_filter (s : State) (l : Lane) (n : Nat) : (s.dropRecords l n).filter = s.filter := rfl
@[simp] theorem State.dropRecords_flash (s : State) (l : Lane) (n : Nat) : (s.dropRecords l n).flash = s.flash := rfl
@[simp] theorem State.dropRecords_table (s : State) (l : Lane) (n : Nat) : (s.dropRecords l n).table = s.table := rfl
@[simp] theorem State.dropRecords_journal (s : State) (l : Lane) (n : Nat) : (s.dropRecords l n).journal = s.journal.setLane l ((s.lane l).drop n) := rfl
@[simp] theorem State.dropRecords_press (s : State) (l : Lane) (n : Nat) : (s.dropRecords l n).press = s.press := rfl
@[simp] theorem State.dropRecords_link (s : State) (l : Lane) (n : Nat) : (s.dropRecords l n).link = s.link := rfl
@[simp] theorem State.dropRecords_store (s : State) (l : Lane) (n : Nat) : (s.dropRecords l n).store = s.store := rfl
@[simp] theorem State.dropRecords_pending (s : State) (l : Lane) (n : Nat) : (s.dropRecords l n).pending = s.pending := rfl

@[simp] theorem State.setModulePending_power (s : State) (i : Nat) (x : Option ModuleItem) : (s.setModulePending i x).power = s.power := rfl
@[simp] theorem State.setModulePending_straps (s : State) (i : Nat) (x : Option ModuleItem) : (s.setModulePending i x).straps = s.straps := rfl
@[simp] theorem State.setModulePending_time (s : State) (i : Nat) (x : Option ModuleItem) : (s.setModulePending i x).time = s.time := rfl
@[simp] theorem State.setModulePending_scanner (s : State) (i : Nat) (x : Option ModuleItem) : (s.setModulePending i x).scanner = s.scanner := rfl
@[simp] theorem State.setModulePending_filter (s : State) (i : Nat) (x : Option ModuleItem) : (s.setModulePending i x).filter = s.filter := rfl
@[simp] theorem State.setModulePending_flash (s : State) (i : Nat) (x : Option ModuleItem) : (s.setModulePending i x).flash = s.flash := rfl
@[simp] theorem State.setModulePending_table (s : State) (i : Nat) (x : Option ModuleItem) : (s.setModulePending i x).table = s.table := rfl
@[simp] theorem State.setModulePending_press (s : State) (i : Nat) (x : Option ModuleItem) : (s.setModulePending i x).press = s.press := rfl
@[simp] theorem State.setModulePending_link (s : State) (i : Nat) (x : Option ModuleItem) : (s.setModulePending i x).link = s.link := rfl
@[simp] theorem State.setModulePending_store (s : State) (i : Nat) (x : Option ModuleItem) : (s.setModulePending i x).store = s.store := rfl
@[simp] theorem State.setModulePending_pending (s : State) (i : Nat) (x : Option ModuleItem) : (s.setModulePending i x).pending = s.pending := rfl

@[simp] theorem State.setOutputPending_power (s : State) (o : Nat) (x : Option OutputItem) : (s.setOutputPending o x).power = s.power := rfl
@[simp] theorem State.setOutputPending_straps (s : State) (o : Nat) (x : Option OutputItem) : (s.setOutputPending o x).straps = s.straps := rfl
@[simp] theorem State.setOutputPending_time (s : State) (o : Nat) (x : Option OutputItem) : (s.setOutputPending o x).time = s.time := rfl
@[simp] theorem State.setOutputPending_scanner (s : State) (o : Nat) (x : Option OutputItem) : (s.setOutputPending o x).scanner = s.scanner := rfl
@[simp] theorem State.setOutputPending_filter (s : State) (o : Nat) (x : Option OutputItem) : (s.setOutputPending o x).filter = s.filter := rfl
@[simp] theorem State.setOutputPending_flash (s : State) (o : Nat) (x : Option OutputItem) : (s.setOutputPending o x).flash = s.flash := rfl
@[simp] theorem State.setOutputPending_table (s : State) (o : Nat) (x : Option OutputItem) : (s.setOutputPending o x).table = s.table := rfl
@[simp] theorem State.setOutputPending_press (s : State) (o : Nat) (x : Option OutputItem) : (s.setOutputPending o x).press = s.press := rfl
@[simp] theorem State.setOutputPending_link (s : State) (o : Nat) (x : Option OutputItem) : (s.setOutputPending o x).link = s.link := rfl
@[simp] theorem State.setOutputPending_store (s : State) (o : Nat) (x : Option OutputItem) : (s.setOutputPending o x).store = s.store := rfl
@[simp] theorem State.setOutputPending_pending (s : State) (o : Nat) (x : Option OutputItem) : (s.setOutputPending o x).pending = s.pending := rfl

@[simp] theorem State.setLink_power (s : State) (x : Link) : (s.setLink x).power = s.power := rfl
@[simp] theorem State.setLink_straps (s : State) (x : Link) : (s.setLink x).straps = s.straps := rfl
@[simp] theorem State.setLink_time (s : State) (x : Link) : (s.setLink x).time = s.time := rfl
@[simp] theorem State.setLink_scanner (s : State) (x : Link) : (s.setLink x).scanner = s.scanner := rfl
@[simp] theorem State.setLink_filter (s : State) (x : Link) : (s.setLink x).filter = s.filter := rfl
@[simp] theorem State.setLink_flash (s : State) (x : Link) : (s.setLink x).flash = s.flash := rfl
@[simp] theorem State.setLink_table (s : State) (x : Link) : (s.setLink x).table = s.table := rfl
@[simp] theorem State.setLink_journal (s : State) (x : Link) : (s.setLink x).journal = s.journal := rfl
@[simp] theorem State.setLink_press (s : State) (x : Link) : (s.setLink x).press = s.press := rfl
@[simp] theorem State.setLink_link (s : State) (x : Link) : (s.setLink x).link = x := rfl
@[simp] theorem State.setLink_store (s : State) (x : Link) : (s.setLink x).store = s.store := rfl
@[simp] theorem State.setLink_pending (s : State) (x : Link) : (s.setLink x).pending = s.pending := rfl

@[simp] theorem State.setReplies_power (s : State) (fs : List Frame) : (s.setReplies fs).power = s.power := rfl
@[simp] theorem State.setReplies_straps (s : State) (fs : List Frame) : (s.setReplies fs).straps = s.straps := rfl
@[simp] theorem State.setReplies_time (s : State) (fs : List Frame) : (s.setReplies fs).time = s.time := rfl
@[simp] theorem State.setReplies_scanner (s : State) (fs : List Frame) : (s.setReplies fs).scanner = s.scanner := rfl
@[simp] theorem State.setReplies_filter (s : State) (fs : List Frame) : (s.setReplies fs).filter = s.filter := rfl
@[simp] theorem State.setReplies_flash (s : State) (fs : List Frame) : (s.setReplies fs).flash = s.flash := rfl
@[simp] theorem State.setReplies_table (s : State) (fs : List Frame) : (s.setReplies fs).table = s.table := rfl
@[simp] theorem State.setReplies_journal (s : State) (fs : List Frame) : (s.setReplies fs).journal = s.journal := rfl
@[simp] theorem State.setReplies_press (s : State) (fs : List Frame) : (s.setReplies fs).press = s.press := rfl
@[simp] theorem State.setReplies_link (s : State) (fs : List Frame) : (s.setReplies fs).link = { s.link with replies := fs } := rfl
@[simp] theorem State.setReplies_store (s : State) (fs : List Frame) : (s.setReplies fs).store = s.store := rfl
@[simp] theorem State.setReplies_pending (s : State) (fs : List Frame) : (s.setReplies fs).pending = s.pending := rfl

@[simp] theorem State.setSending_power (s : State) (f : Option Frame) : (s.setSending f).power = s.power := rfl
@[simp] theorem State.setSending_straps (s : State) (f : Option Frame) : (s.setSending f).straps = s.straps := rfl
@[simp] theorem State.setSending_time (s : State) (f : Option Frame) : (s.setSending f).time = s.time := rfl
@[simp] theorem State.setSending_scanner (s : State) (f : Option Frame) : (s.setSending f).scanner = s.scanner := rfl
@[simp] theorem State.setSending_filter (s : State) (f : Option Frame) : (s.setSending f).filter = s.filter := rfl
@[simp] theorem State.setSending_flash (s : State) (f : Option Frame) : (s.setSending f).flash = s.flash := rfl
@[simp] theorem State.setSending_table (s : State) (f : Option Frame) : (s.setSending f).table = s.table := rfl
@[simp] theorem State.setSending_journal (s : State) (f : Option Frame) : (s.setSending f).journal = s.journal := rfl
@[simp] theorem State.setSending_press (s : State) (f : Option Frame) : (s.setSending f).press = s.press := rfl
@[simp] theorem State.setSending_link (s : State) (f : Option Frame) : (s.setSending f).link = { s.link with sending := f } := rfl
@[simp] theorem State.setSending_store (s : State) (f : Option Frame) : (s.setSending f).store = s.store := rfl
@[simp] theorem State.setSending_pending (s : State) (f : Option Frame) : (s.setSending f).pending = s.pending := rfl

@[simp] theorem State.enqueue_power (s : State) (f : Frame) : (s.enqueue f).power = s.power := rfl
@[simp] theorem State.enqueue_straps (s : State) (f : Frame) : (s.enqueue f).straps = s.straps := rfl
@[simp] theorem State.enqueue_time (s : State) (f : Frame) : (s.enqueue f).time = s.time := rfl
@[simp] theorem State.enqueue_scanner (s : State) (f : Frame) : (s.enqueue f).scanner = s.scanner := rfl
@[simp] theorem State.enqueue_filter (s : State) (f : Frame) : (s.enqueue f).filter = s.filter := rfl
@[simp] theorem State.enqueue_flash (s : State) (f : Frame) : (s.enqueue f).flash = s.flash := rfl
@[simp] theorem State.enqueue_table (s : State) (f : Frame) : (s.enqueue f).table = s.table := rfl
@[simp] theorem State.enqueue_journal (s : State) (f : Frame) : (s.enqueue f).journal = s.journal := rfl
@[simp] theorem State.enqueue_press (s : State) (f : Frame) : (s.enqueue f).press = s.press := rfl
@[simp] theorem State.enqueue_link (s : State) (f : Frame) : (s.enqueue f).link = { s.link with replies := s.link.replies ++ [f] } := rfl
@[simp] theorem State.enqueue_store (s : State) (f : Frame) : (s.enqueue f).store = s.store := rfl
@[simp] theorem State.enqueue_pending (s : State) (f : Frame) : (s.enqueue f).pending = s.pending := rfl

@[simp] theorem State.clearDropped_power (s : State) : (s.clearDropped).power = s.power := rfl
@[simp] theorem State.clearDropped_straps (s : State) : (s.clearDropped).straps = s.straps := rfl
@[simp] theorem State.clearDropped_time (s : State) : (s.clearDropped).time = s.time := rfl
@[simp] theorem State.clearDropped_scanner (s : State) : (s.clearDropped).scanner = s.scanner := rfl
@[simp] theorem State.clearDropped_filter (s : State) : (s.clearDropped).filter = s.filter := rfl
@[simp] theorem State.clearDropped_flash (s : State) : (s.clearDropped).flash = s.flash := rfl
@[simp] theorem State.clearDropped_table (s : State) : (s.clearDropped).table = s.table := rfl
@[simp] theorem State.clearDropped_journal (s : State) : (s.clearDropped).journal = s.journal := rfl
@[simp] theorem State.clearDropped_press (s : State) : (s.clearDropped).press = s.press := rfl
@[simp] theorem State.clearDropped_link (s : State) : (s.clearDropped).link = { s.link with dropped := false } := rfl
@[simp] theorem State.clearDropped_store (s : State) : (s.clearDropped).store = s.store := rfl
@[simp] theorem State.clearDropped_pending (s : State) : (s.clearDropped).pending = s.pending := rfl

@[simp] theorem State.dropRequest_power (s : State) : (s.dropRequest).power = s.power := rfl
@[simp] theorem State.dropRequest_straps (s : State) : (s.dropRequest).straps = s.straps := rfl
@[simp] theorem State.dropRequest_time (s : State) : (s.dropRequest).time = s.time := rfl
@[simp] theorem State.dropRequest_scanner (s : State) : (s.dropRequest).scanner = s.scanner := rfl
@[simp] theorem State.dropRequest_filter (s : State) : (s.dropRequest).filter = s.filter := rfl
@[simp] theorem State.dropRequest_flash (s : State) : (s.dropRequest).flash = s.flash := rfl
@[simp] theorem State.dropRequest_table (s : State) : (s.dropRequest).table = s.table := rfl
@[simp] theorem State.dropRequest_journal (s : State) : (s.dropRequest).journal = s.journal := rfl
@[simp] theorem State.dropRequest_press (s : State) : (s.dropRequest).press = s.press := rfl
@[simp] theorem State.dropRequest_link (s : State) : (s.dropRequest).link = { s.link with dropped := true } := rfl
@[simp] theorem State.dropRequest_store (s : State) : (s.dropRequest).store = s.store := rfl
@[simp] theorem State.dropRequest_pending (s : State) : (s.dropRequest).pending = s.pending := rfl

@[simp] theorem State.setStore_power (s : State) (x : Store) : (s.setStore x).power = s.power := rfl
@[simp] theorem State.setStore_straps (s : State) (x : Store) : (s.setStore x).straps = s.straps := rfl
@[simp] theorem State.setStore_time (s : State) (x : Store) : (s.setStore x).time = s.time := rfl
@[simp] theorem State.setStore_scanner (s : State) (x : Store) : (s.setStore x).scanner = s.scanner := rfl
@[simp] theorem State.setStore_filter (s : State) (x : Store) : (s.setStore x).filter = s.filter := rfl
@[simp] theorem State.setStore_flash (s : State) (x : Store) : (s.setStore x).flash = s.flash := rfl
@[simp] theorem State.setStore_table (s : State) (x : Store) : (s.setStore x).table = s.table := rfl
@[simp] theorem State.setStore_journal (s : State) (x : Store) : (s.setStore x).journal = s.journal := rfl
@[simp] theorem State.setStore_press (s : State) (x : Store) : (s.setStore x).press = s.press := rfl
@[simp] theorem State.setStore_link (s : State) (x : Store) : (s.setStore x).link = s.link := rfl
@[simp] theorem State.setStore_store (s : State) (x : Store) : (s.setStore x).store = x := rfl
@[simp] theorem State.setStore_pending (s : State) (x : Store) : (s.setStore x).pending = s.pending := rfl

@[simp] theorem State.setTime_power (s : State) (t : Stamp) : (s.setTime t).power = s.power := rfl
@[simp] theorem State.setTime_straps (s : State) (t : Stamp) : (s.setTime t).straps = s.straps := rfl
@[simp] theorem State.setTime_time (s : State) (t : Stamp) : (s.setTime t).time = t := rfl
@[simp] theorem State.setTime_scanner (s : State) (t : Stamp) : (s.setTime t).scanner = s.scanner := rfl
@[simp] theorem State.setTime_filter (s : State) (t : Stamp) : (s.setTime t).filter = s.filter := rfl
@[simp] theorem State.setTime_flash (s : State) (t : Stamp) : (s.setTime t).flash = s.flash := rfl
@[simp] theorem State.setTime_table (s : State) (t : Stamp) : (s.setTime t).table = s.table := rfl
@[simp] theorem State.setTime_journal (s : State) (t : Stamp) : (s.setTime t).journal = s.journal := rfl
@[simp] theorem State.setTime_press (s : State) (t : Stamp) : (s.setTime t).press = s.press := rfl
@[simp] theorem State.setTime_link (s : State) (t : Stamp) : (s.setTime t).link = s.link := rfl
@[simp] theorem State.setTime_store (s : State) (t : Stamp) : (s.setTime t).store = s.store := rfl
@[simp] theorem State.setTime_pending (s : State) (t : Stamp) : (s.setTime t).pending = s.pending := rfl

@[simp] theorem State.setPower_power (s : State) (p : Power) : (s.setPower p).power = p := rfl
@[simp] theorem State.setPower_straps (s : State) (p : Power) : (s.setPower p).straps = s.straps := rfl
@[simp] theorem State.setPower_time (s : State) (p : Power) : (s.setPower p).time = s.time := rfl
@[simp] theorem State.setPower_scanner (s : State) (p : Power) : (s.setPower p).scanner = s.scanner := rfl
@[simp] theorem State.setPower_filter (s : State) (p : Power) : (s.setPower p).filter = s.filter := rfl
@[simp] theorem State.setPower_flash (s : State) (p : Power) : (s.setPower p).flash = s.flash := rfl
@[simp] theorem State.setPower_table (s : State) (p : Power) : (s.setPower p).table = s.table := rfl
@[simp] theorem State.setPower_journal (s : State) (p : Power) : (s.setPower p).journal = s.journal := rfl
@[simp] theorem State.setPower_press (s : State) (p : Power) : (s.setPower p).press = s.press := rfl
@[simp] theorem State.setPower_link (s : State) (p : Power) : (s.setPower p).link = s.link := rfl
@[simp] theorem State.setPower_store (s : State) (p : Power) : (s.setPower p).store = s.store := rfl
@[simp] theorem State.setPower_pending (s : State) (p : Power) : (s.setPower p).pending = s.pending := rfl

@[simp] theorem State.setStraps_power (s : State) (x : Straps) : (s.setStraps x).power = s.power := rfl
@[simp] theorem State.setStraps_straps (s : State) (x : Straps) : (s.setStraps x).straps = x := rfl
@[simp] theorem State.setStraps_time (s : State) (x : Straps) : (s.setStraps x).time = s.time := rfl
@[simp] theorem State.setStraps_scanner (s : State) (x : Straps) : (s.setStraps x).scanner = s.scanner := rfl
@[simp] theorem State.setStraps_filter (s : State) (x : Straps) : (s.setStraps x).filter = s.filter := rfl
@[simp] theorem State.setStraps_flash (s : State) (x : Straps) : (s.setStraps x).flash = s.flash := rfl
@[simp] theorem State.setStraps_table (s : State) (x : Straps) : (s.setStraps x).table = s.table := rfl
@[simp] theorem State.setStraps_journal (s : State) (x : Straps) : (s.setStraps x).journal = s.journal := rfl
@[simp] theorem State.setStraps_press (s : State) (x : Straps) : (s.setStraps x).press = s.press := rfl
@[simp] theorem State.setStraps_link (s : State) (x : Straps) : (s.setStraps x).link = s.link := rfl
@[simp] theorem State.setStraps_store (s : State) (x : Straps) : (s.setStraps x).store = s.store := rfl
@[simp] theorem State.setStraps_pending (s : State) (x : Straps) : (s.setStraps x).pending = s.pending := rfl

@[simp] theorem State.setMode_power (s : State) (m : LinkMode) : (s.setMode m).power = s.power := rfl
@[simp] theorem State.setMode_straps (s : State) (m : LinkMode) : (s.setMode m).straps = s.straps := rfl
@[simp] theorem State.setMode_time (s : State) (m : LinkMode) : (s.setMode m).time = s.time := rfl
@[simp] theorem State.setMode_scanner (s : State) (m : LinkMode) : (s.setMode m).scanner = s.scanner := rfl
@[simp] theorem State.setMode_filter (s : State) (m : LinkMode) : (s.setMode m).filter = s.filter := rfl
@[simp] theorem State.setMode_flash (s : State) (m : LinkMode) : (s.setMode m).flash = s.flash := rfl
@[simp] theorem State.setMode_table (s : State) (m : LinkMode) : (s.setMode m).table = s.table := rfl
@[simp] theorem State.setMode_journal (s : State) (m : LinkMode) : (s.setMode m).journal = s.journal := rfl
@[simp] theorem State.setMode_press (s : State) (m : LinkMode) : (s.setMode m).press = s.press := rfl
@[simp] theorem State.setMode_link (s : State) (m : LinkMode) : (s.setMode m).link = { s.link with mode := m } := rfl
@[simp] theorem State.setMode_store (s : State) (m : LinkMode) : (s.setMode m).store = s.store := rfl
@[simp] theorem State.setMode_pending (s : State) (m : LinkMode) : (s.setMode m).pending = s.pending := rfl

@[simp] theorem State.setHold_power (s : State) (b : Bool) : (s.setHold b).power = s.power := rfl
@[simp] theorem State.setHold_straps (s : State) (b : Bool) : (s.setHold b).straps = s.straps := rfl
@[simp] theorem State.setHold_time (s : State) (b : Bool) : (s.setHold b).time = s.time := rfl
@[simp] theorem State.setHold_scanner (s : State) (b : Bool) : (s.setHold b).scanner = s.scanner := rfl
@[simp] theorem State.setHold_filter (s : State) (b : Bool) : (s.setHold b).filter = s.filter := rfl
@[simp] theorem State.setHold_flash (s : State) (b : Bool) : (s.setHold b).flash = s.flash := rfl
@[simp] theorem State.setHold_table (s : State) (b : Bool) : (s.setHold b).table = s.table := rfl
@[simp] theorem State.setHold_journal (s : State) (b : Bool) : (s.setHold b).journal = s.journal := rfl
@[simp] theorem State.setHold_press (s : State) (b : Bool) : (s.setHold b).press = s.press := rfl
@[simp] theorem State.setHold_link (s : State) (b : Bool) : (s.setHold b).link = { s.link with hold := b } := rfl
@[simp] theorem State.setHold_store (s : State) (b : Bool) : (s.setHold b).store = s.store := rfl
@[simp] theorem State.setHold_pending (s : State) (b : Bool) : (s.setHold b).pending = s.pending := rfl

@[simp] theorem State.setReceiver_power (s : State) (r : Receiver) : (s.setReceiver r).power = s.power := rfl
@[simp] theorem State.setReceiver_straps (s : State) (r : Receiver) : (s.setReceiver r).straps = s.straps := rfl
@[simp] theorem State.setReceiver_time (s : State) (r : Receiver) : (s.setReceiver r).time = s.time := rfl
@[simp] theorem State.setReceiver_scanner (s : State) (r : Receiver) : (s.setReceiver r).scanner = s.scanner := rfl
@[simp] theorem State.setReceiver_filter (s : State) (r : Receiver) : (s.setReceiver r).filter = s.filter := rfl
@[simp] theorem State.setReceiver_flash (s : State) (r : Receiver) : (s.setReceiver r).flash = s.flash := rfl
@[simp] theorem State.setReceiver_table (s : State) (r : Receiver) : (s.setReceiver r).table = s.table := rfl
@[simp] theorem State.setReceiver_journal (s : State) (r : Receiver) : (s.setReceiver r).journal = s.journal := rfl
@[simp] theorem State.setReceiver_press (s : State) (r : Receiver) : (s.setReceiver r).press = s.press := rfl
@[simp] theorem State.setReceiver_link (s : State) (r : Receiver) : (s.setReceiver r).link = { s.link with receiver := r } := rfl
@[simp] theorem State.setReceiver_store (s : State) (r : Receiver) : (s.setReceiver r).store = s.store := rfl
@[simp] theorem State.setReceiver_pending (s : State) (r : Receiver) : (s.setReceiver r).pending = s.pending := rfl

@[simp] theorem State.beginRestart_power (s : State) : (s.beginRestart).power = s.power := rfl
@[simp] theorem State.beginRestart_straps (s : State) : (s.beginRestart).straps = s.straps := rfl
@[simp] theorem State.beginRestart_time (s : State) : (s.beginRestart).time = s.time := rfl
@[simp] theorem State.beginRestart_scanner (s : State) : (s.beginRestart).scanner = s.scanner := rfl
@[simp] theorem State.beginRestart_filter (s : State) : (s.beginRestart).filter = s.filter := rfl
@[simp] theorem State.beginRestart_flash (s : State) : (s.beginRestart).flash = s.flash := rfl
@[simp] theorem State.beginRestart_table (s : State) : (s.beginRestart).table = s.table := rfl
@[simp] theorem State.beginRestart_journal (s : State) : (s.beginRestart).journal = s.journal := rfl
@[simp] theorem State.beginRestart_press (s : State) : (s.beginRestart).press = s.press := rfl
@[simp] theorem State.beginRestart_link (s : State) : (s.beginRestart).link = { s.link with restarting := true } := rfl
@[simp] theorem State.beginRestart_store (s : State) : (s.beginRestart).store = s.store := rfl
@[simp] theorem State.beginRestart_pending (s : State) : (s.beginRestart).pending = s.pending := rfl

@[simp] theorem State.setPending_power (s : State) (cs : List Instr) : (s.setPending cs).power = s.power := rfl
@[simp] theorem State.setPending_straps (s : State) (cs : List Instr) : (s.setPending cs).straps = s.straps := rfl
@[simp] theorem State.setPending_time (s : State) (cs : List Instr) : (s.setPending cs).time = s.time := rfl
@[simp] theorem State.setPending_scanner (s : State) (cs : List Instr) : (s.setPending cs).scanner = s.scanner := rfl
@[simp] theorem State.setPending_filter (s : State) (cs : List Instr) : (s.setPending cs).filter = s.filter := rfl
@[simp] theorem State.setPending_flash (s : State) (cs : List Instr) : (s.setPending cs).flash = s.flash := rfl
@[simp] theorem State.setPending_table (s : State) (cs : List Instr) : (s.setPending cs).table = s.table := rfl
@[simp] theorem State.setPending_journal (s : State) (cs : List Instr) : (s.setPending cs).journal = s.journal := rfl
@[simp] theorem State.setPending_press (s : State) (cs : List Instr) : (s.setPending cs).press = s.press := rfl
@[simp] theorem State.setPending_link (s : State) (cs : List Instr) : (s.setPending cs).link = s.link := rfl
@[simp] theorem State.setPending_store (s : State) (cs : List Instr) : (s.setPending cs).store = s.store := rfl
@[simp] theorem State.setPending_pending (s : State) (cs : List Instr) : (s.setPending cs).pending = cs := rfl

end Sys2Proof.Machine
end

