-- ==== Sys2Proof/Laws/Kept.lean ====
section
/-! SUPPORT. What the shared operations can do, said once: a property that the primitive updates keep is kept by every
operation built on them (journal, press unit, resolver). An append comes only into a free place, and one of a record
that reports an object only while the part is RUNNING. -/

namespace Sys2Proof.Machine

/-- A property kept by the primitive updates of the journal and of ending operations: no slot is set to WATCHING, and an
object record changes in its dirty mark alone. -/
structure KeptByEnd (P : State → Prop) : Prop where
  outputs : ∀ s x, P s → P (s.setOutputs x)
  slot : ∀ s k x, x.isWatching = false → P s → P (s.setSlot k x)
  permit : ∀ s p k, P s → P (s.setPermit p k)
  queue : ∀ s q, P s → P (s.setQueue q)
  dirty : ∀ s n m, P s → P (s.setDirty n m)
  modulePending : ∀ s i x, P s → P (s.setModulePending i x)
  outputPending : ∀ s o x, P s → P (s.setOutputPending o x)
  append : ∀ s l r, s.hasPlace l = true → (r.ofObject = true → s.running = true) → P s → P (s.append l r)

/-- A property kept, besides, by a slot entering WATCHING. -/
structure KeptByPress (P : State → Prop) : Prop extends KeptByEnd P where
  watch : ∀ s k op e, P s → P (s.setSlot k (.watching op e))

/-- A property kept, besides, by every rewriting of object records. -/
structure Kept (P : State → Prop) : Prop extends KeptByPress P where
  objects : ∀ s x, P s → P (s.setObjects x)

/-! ### Lanes under the primitive updates -/

theorem State.lane_of_journal {s t : State} (h : s.journal = t.journal) (l : Lane) : s.lane l = t.lane l := by
  simp [State.lane, h]

@[simp] theorem State.lane_append_self (s : State) (l : Lane) (r : Record) : (s.append l r).lane l = s.lane l ++ [r] := by
  cases l <;> rfl

@[simp] theorem State.lane_setModulePending (s : State) (i : Nat) (x : Option ModuleItem) (l : Lane) :
    (s.setModulePending i x).lane l = s.lane l := by cases l <;> rfl

@[simp] theorem State.lane_setOutputPending (s : State) (o : Nat) (x : Option OutputItem) (l : Lane) :
    (s.setOutputPending o x).lane l = s.lane l := by cases l <;> rfl

@[simp] theorem State.lane_setSlot (s : State) (k : Nat) (x : Slot) (l : Lane) : (s.setSlot k x).lane l = s.lane l := rfl

@[simp] theorem State.lane_setDirty (s : State) (n : Nat) (m : Option Lane) (l : Lane) :
    (s.setDirty n m).lane l = s.lane l := rfl

/-- Appending a pending item lengthens its lane by one record at most. -/
theorem State.appendPending_length (s : State) (l : Lane) (p : PendingItem) :
    ((s.appendPending l p).lane l).length ≤ (s.lane l).length + 1 := by
  unfold State.appendPending
  split
  · split <;> simp
  · split <;> simp
  · split <;> simp
  · simp

/-- An object is appended by a refill only while the part is RUNNING (R106). -/
theorem State.firstPending_object {s : State} {l : Lane} {n : Nat} (h : s.firstPending l = some (.object n)) :
    s.running = true := by
  have marked : ∀ m, s.firstMarked m = some (.object n) → s.running = true := by
    intro m hm
    unfold State.firstMarked at hm
    split at hm
    · assumption
    · exact absurd hm (by simp)
  unfold State.firstPending at h
  split at h
  · split at h
    · exact absurd h (by simp)
    · split at h
      · exact absurd h (by simp)
      · split at h
        · exact absurd h (by simp)
        · exact marked _ h
  · split at h
    · exact absurd h (by simp)
    · exact marked _ h

theorem State.hasPlace_iff (s : State) (l : Lane) : s.hasPlace l = true ↔ (s.lane l).length < l.places := by
  simp [State.hasPlace]

theorem State.admits_hasPlace {s : State} {l : Lane} (h : s.admits l = true) : s.hasPlace l = true := by
  simp only [State.admits, Bool.and_eq_true] at h
  exact h.1

/-- A fold of an operation that keeps a property keeps it. -/
theorem kept_foldl {P : State → Prop} {α : Type} {f : State → α → State} (hf : ∀ s a, P s → P (f s a)) (as : List α)
    {s : State} (h : P s) : P (as.foldl f s) := by
  induction as generalizing s with
  | nil => exact h
  | cons a as ih => exact ih (hf s a h)

namespace KeptByEnd

variable {P : State → Prop} (K : KeptByEnd P)
include K

theorem setOutput {s : State} {o : Nat} {r : OutputRecord} (h : P s) : P (s.setOutput o r) := K.outputs _ _ h

/-! ### The journal -/

theorem appendPending {s : State} {l : Lane} {p : PendingItem} (place : s.hasPlace l = true)
    (first : s.firstPending l = some p) (h : P s) : P (s.appendPending l p) := by
  unfold State.appendPending
  split
  · split
    · exact K.modulePending _ _ _ (K.append _ _ _ place (by simp [Record.ofObject]) h)
    · exact h
  · split
    · exact K.outputPending _ _ _ (K.append _ _ _ place (by simp [Record.ofObject]) h)
    · exact h
  · split
    · exact K.slot _ _ _ rfl (K.append _ _ _ place (by simp [Record.ofObject]) h)
    · exact h
  · exact K.dirty _ _ _ (K.append _ _ _ place (fun _ => State.firstPending_object first) h)

theorem refillUpTo {l : Lane} (n : Nat) {s : State} (room : (s.lane l).length + n ≤ l.places) (h : P s) :
    P (State.refillUpTo l n s) := by
  induction n generalizing s with
  | zero => exact h
  | succ n ih =>
    unfold State.refillUpTo
    split
    · exact h
    · rename_i p first
      have place : s.hasPlace l = true := by rw [State.hasPlace_iff]; omega
      refine ih ?_ (K.appendPending place first h)
      have := s.appendPending_length l p
      omega

theorem refill {s : State} {l : Lane} (h : P s) : P (s.refill l) := by
  unfold State.refill
  by_cases full : (s.lane l).length ≤ l.places
  · exact K.refillUpTo _ (by omega) h
  · have zero : l.places - (s.lane l).length = 0 := by omega
    rw [zero]
    exact h

theorem refillBoth {s : State} (h : P s) : P s.refillBoth := K.refill (K.refill h)

theorem handModule {s : State} {i : ModuleItem} (h : P s) : P (s.handModule i) := by
  unfold State.handModule
  split
  · rename_i a
    exact K.append _ _ _ (State.admits_hasPlace a) (by simp [Record.ofObject]) h
  · exact K.refill (K.modulePending _ _ _ h)

theorem handOutput {s : State} {i : OutputItem} (h : P s) : P (s.handOutput i) := by
  unfold State.handOutput
  split
  · rename_i a
    exact K.append _ _ _ (State.admits_hasPlace a) (by simp [Record.ofObject]) h
  · exact K.refill (K.outputPending _ _ _ h)

theorem handPressEnd {s : State} {k tag : Nat} {rep : EndReport} (h : P s) : P (s.handPressEnd k tag rep) := by
  unfold State.handPressEnd
  split
  · rename_i a
    exact K.slot _ _ _ rfl (K.append _ _ _ (State.admits_hasPlace a) (by simp [Record.ofObject]) h)
  · exact K.refill (K.slot _ _ _ rfl h)

theorem handChange {s : State} {c : Change} (h : P s) : P (s.handChange c) := by
  unfold State.handChange
  split
  · rename_i run
    split
    · split
      · rename_i a
        exact K.append _ _ _ (State.admits_hasPlace a) (fun _ => run) h
      · exact K.refill (K.dirty _ _ _ h)
    · split
      · exact K.refill (K.dirty _ _ _ h)
      · exact h
    · exact h
  · exact h

theorem handModules {s : State} {is : List ModuleItem} (h : P s) : P (s.handModules is) :=
  kept_foldl (fun _ _ => K.handModule) is h

/-! ### The press unit -/

theorem grant {s : State} {p k : Nat} (h : P s) : P (s.grant p k) := by
  unfold State.grant
  split
  · exact h
  · split
    · exact h
    · exact K.permit _ _ _ (K.slot _ _ _ rfl (K.setOutput h))

theorem stepDue {s : State} {k : Nat} {op : Operation} (h : P s) : P (s.stepDue k op) := by
  unfold State.stepDue
  split
  · exact K.grant (K.slot _ _ _ rfl h)
  · exact K.queue _ _ (K.slot _ _ _ rfl h)

theorem releasePermit {s : State} {k : Nat} (h : P s) : P (s.releasePermit k) := by
  unfold State.releasePermit
  split
  · exact h
  · split
    · exact K.permit _ _ _ h
    · exact K.grant (K.queue _ _ (K.permit _ _ _ h))

theorem cutOff {s : State} {k o : Nat} {t : Stamp} (h : P s) : P (s.cutOff k o t) := by
  have h1 : P ((s.setOutput o (s.output o).toIdle).releasePermit k) := K.releasePermit (K.setOutput h)
  unfold State.cutOff
  dsimp only
  split
  · exact h1
  · split
    · split
      · exact K.setOutput h1
      · exact h1
    · exact K.setOutput h1

theorem cutOffDriven {s : State} {k : Nat} {t : Stamp} (h : P s) : P (s.cutOffDriven k t) := by
  unfold State.cutOffDriven
  split
  · exact h
  · exact K.cutOff h

theorem endOperation {s : State} {k : Nat} {rep : EndReport} (h : P s) : P (s.endOperation k rep) := by
  unfold State.endOperation
  split
  · exact h
  · exact K.handPressEnd (K.queue _ _ (K.outputs _ _ (K.cutOffDriven (K.outputs _ _ h))))

theorem judgeWatch {s : State} {cs : List Change} {k : Nat} (h : P s) : P (State.judgeWatch cs s k) := by
  unfold State.judgeWatch
  split
  · dsimp only
    split
    · exact h
    · split
      · exact K.endOperation h
      · split
        · exact K.endOperation h
        · exact h
  · exact h

theorem handToPress {s : State} {cs : List Change} (h : P s) : P (s.handToPress cs) :=
  kept_foldl (fun _ _ => K.judgeWatch) _ h

theorem faultOutput {s : State} {o : Nat} {c : DriverCause} {t : Stamp} (h : P s) : P (s.faultOutput o c t) :=
  K.handOutput (K.setOutput h)

theorem endOwner {s : State} {w : Option Nat} {rep : EndReport} (h : P s) : P (s.endOwner w rep) := by
  unfold State.endOwner
  split
  · exact K.endOperation h
  · exact h

end KeptByEnd

namespace KeptByPress

variable {P : State → Prop} (K : KeptByPress P)
include K

theorem enterWatching {s : State} {k : Nat} {op : Operation} (h : P s) : P (s.enterWatching k op) := by
  have h1 : P (s.unclaim k) := K.outputs _ _ h
  unfold State.enterWatching
  dsimp only
  split
  · exact K.endOperation h1
  · split
    · exact K.endOperation h1
    · split
      · exact K.endOperation (K.watch _ _ _ _ h1)
      · exact K.watch _ _ _ _ h1

theorem releaseDone {s : State} {k : Nat} (h : P s) : P (s.releaseDone k) := by
  unfold State.releaseDone
  split
  · exact h
  · split
    · exact K.enterWatching h
    · split
      · exact K.stepDue h
      · exact K.slot _ _ _ rfl h

theorem completeRelease {s : State} {o : Nat} (h : P s) : P (s.completeRelease o) := by
  unfold State.completeRelease
  dsimp only
  split
  · exact K.releaseDone (K.setOutput h)
  · exact K.setOutput h

theorem judgeRelease {s : State} {es : List BatchEntry} {o : Nat} (h : P s) : P (State.judgeRelease es s o) := by
  unfold State.judgeRelease
  dsimp only
  split
  · split
    · exact h
    · split
      · exact K.completeRelease h
      · exact h
  · exact h

theorem judgeReadbacks {s : State} {es : List BatchEntry} (h : P s) : P (s.judgeReadbacks es) :=
  kept_foldl (fun _ _ => K.judgeRelease) _ h

theorem endPulse {s : State} {o : Nat} {d : Stamp} (h : P s) : P (s.endPulse o d) := by
  unfold State.endPulse
  dsimp only
  split
  · exact h
  · rename_i k hk
    have h2 : P ((s.setOutput o { s.output o with state := .claimed, pulseEnd := none }).releasePermit k) :=
      K.releasePermit (K.setOutput h)
    split
    · exact K.completeRelease h2
    · split
      · exact K.endOperation (K.setOutput h2)
      · split
        · split
          · exact K.slot _ _ _ rfl (K.setOutput h2)
          · exact h2
        · exact K.endOperation (K.faultOutput h2)

theorem endWindow {s : State} {o : Nat} {d : Stamp} (h : P s) : P (s.endWindow o d) := by
  unfold State.endWindow
  dsimp only
  split
  · exact K.completeRelease h
  · split
    · exact K.endOwner (K.faultOutput h)
    · split
      · exact K.endOwner (K.faultOutput h)
      · exact K.completeRelease h

end KeptByPress

namespace Kept

variable {P : State → Prop} (K : Kept P)
include K

theorem setObject {s : State} {n : Nat} {o : ObjectRecord} (h : P s) : P (s.setObject n o) := K.objects _ _ h

theorem markAll {s : State} (h : P s) : P s.markAll := K.refillBoth (K.objects _ _ h)

/-! ### The resolver -/

theorem handOn {s : State} {c : Option Change} (h : P s) : P (s.handOn c) := by
  unfold State.handOn
  split
  · exact h
  · exact K.handChange h

theorem resolve {s : State} {n : Nat} {cause : ChangeCause} {stamp : Stamp} {e : Bool} (h : P s) :
    P (s.resolve n cause stamp e).1 := by
  unfold State.resolve
  split
  · exact K.handOn (K.setObject h)
  · exact h

theorem resolveHits {hits : List Hit} {acc : State × List Change} {n : Nat} (h : P acc.1) :
    P (State.resolveHits hits acc n).1 := by
  unfold State.resolveHits
  split
  · exact h
  · exact K.resolve h

theorem resolveBatch {s : State} {es : List BatchEntry} (h : P s) : P (s.resolveBatch es).1 := by
  unfold State.resolveBatch
  generalize List.range s.table.objects.length = ns
  have gen : ∀ (acc : State × List Change), P acc.1 →
      P (ns.foldl (State.resolveHits (hitsOf s.table.index es)) acc).1 := by
    induction ns with
    | nil => intro acc ha; exact ha
    | cons n ns ih => intro acc ha; exact ih _ (K.resolveHits ha)
  exact gen _ h

theorem applyBatch {s : State} {es : List BatchEntry} (h : P s) : P (s.applyBatch es) :=
  K.judgeReadbacks (K.handToPress (K.resolveBatch h))

theorem expireTimer {s : State} {n : Nat} {e : Stamp} (h : P s) : P (s.expireTimer n e) :=
  K.handToPress (K.resolve (K.setObject h))

end Kept

end Sys2Proof.Machine
end

