-- ==== Sys2Proof/Laws/Lookup.lean ====
section
/-! SUPPORT. What a numbered object, output, press slot or permit is after an update of one of them. -/

namespace Sys2Proof.Machine

theorem State.object_setObject (s : State) (n m : Nat) (o : ObjectRecord) :
    (s.setObject n o).object m = if n = m ∧ n < s.table.objects.length then o else s.object m := by
  unfold State.object
  simp only [State.setObject_table, List.getD_eq_getElem?_getD, List.getElem?_set]
  by_cases h : n = m
  · subst h
    by_cases b : n < s.table.objects.length
    · simp [b]
    · simp [b]
  · simp [h]

theorem State.object_setObject_self {s : State} {n : Nat} {o : ObjectRecord} (h : n < s.table.objects.length) :
    (s.setObject n o).object n = o := by simp [State.object_setObject, h]

theorem State.object_setObject_ne {s : State} {n m : Nat} {o : ObjectRecord} (h : n ≠ m) :
    (s.setObject n o).object m = s.object m := by simp [State.object_setObject, h]

theorem State.output_setOutput (s : State) (n m : Nat) (r : OutputRecord) :
    (s.setOutput n r).output m = if n = m ∧ n < s.press.outputs.length then r else s.output m := by
  unfold State.output
  simp only [State.setOutput_press, List.getD_eq_getElem?_getD, List.getElem?_set]
  by_cases h : n = m
  · subst h
    by_cases b : n < s.press.outputs.length
    · simp [b]
    · simp [b]
  · simp [h]

theorem State.output_setOutput_self {s : State} {o : Nat} {r : OutputRecord} (h : o < s.press.outputs.length) :
    (s.setOutput o r).output o = r := by simp [State.output_setOutput, h]

theorem State.output_setOutput_ne {s : State} {o p : Nat} {r : OutputRecord} (h : o ≠ p) :
    (s.setOutput o r).output p = s.output p := by simp [State.output_setOutput, h]

theorem State.slot_setSlot (s : State) (n m : Nat) (x : Slot) :
    (s.setSlot n x).slot m = if n = m ∧ n < s.press.slots.length then x else s.slot m := by
  unfold State.slot
  simp only [State.setSlot_press, List.getD_eq_getElem?_getD, List.getElem?_set]
  by_cases h : n = m
  · subst h
    by_cases b : n < s.press.slots.length
    · simp [b]
    · simp [b]
  · simp [h]

theorem State.slot_setSlot_self {s : State} {k : Nat} {x : Slot} (h : k < s.press.slots.length) :
    (s.setSlot k x).slot k = x := by simp [State.slot_setSlot, h]

theorem State.slot_setSlot_ne {s : State} {k j : Nat} {x : Slot} (h : k ≠ j) :
    (s.setSlot k x).slot j = s.slot j := by simp [State.slot_setSlot, h]

/-! ### What an update of another block leaves -/

@[simp] theorem State.object_setLink (s : State) (x : Link) (n : Nat) : (s.setLink x).object n = s.object n := rfl
@[simp] theorem State.object_setJournal (s : State) (x : Journal) (n : Nat) : (s.setJournal x).object n = s.object n := rfl
@[simp] theorem State.object_append (s : State) (l : Lane) (r : Record) (n : Nat) : (s.append l r).object n = s.object n := rfl
@[simp] theorem State.object_setSlot (s : State) (k : Nat) (x : Slot) (n : Nat) : (s.setSlot k x).object n = s.object n := rfl
@[simp] theorem State.object_setOutput (s : State) (o : Nat) (r : OutputRecord) (n : Nat) :
    (s.setOutput o r).object n = s.object n := rfl
@[simp] theorem State.object_setScanner (s : State) (x : Scanner) (n : Nat) : (s.setScanner x).object n = s.object n := rfl
@[simp] theorem State.object_setContacts (s : State) (x : List Contact) (n : Nat) :
    (s.setContacts x).object n = s.object n := rfl
@[simp] theorem State.object_setIndex (s : State) (x : List IndexEntry) (n : Nat) :
    (s.setIndex x).object n = s.object n := rfl
@[simp] theorem State.output_setLink (s : State) (x : Link) (n : Nat) : (s.setLink x).output n = s.output n := rfl
@[simp] theorem State.output_setSlot (s : State) (k : Nat) (x : Slot) (n : Nat) : (s.setSlot k x).output n = s.output n := rfl
@[simp] theorem State.output_setPermit (s : State) (p : Nat) (x : Option Nat) (n : Nat) :
    (s.setPermit p x).output n = s.output n := rfl
@[simp] theorem State.output_setQueue (s : State) (q : List Nat) (n : Nat) : (s.setQueue q).output n = s.output n := rfl
@[simp] theorem State.output_append (s : State) (l : Lane) (r : Record) (n : Nat) : (s.append l r).output n = s.output n := rfl
@[simp] theorem State.slot_setLink (s : State) (x : Link) (k : Nat) : (s.setLink x).slot k = s.slot k := rfl
@[simp] theorem State.slot_setObject (s : State) (n : Nat) (o : ObjectRecord) (k : Nat) :
    (s.setObject n o).slot k = s.slot k := rfl
@[simp] theorem State.slot_setOutput (s : State) (o : Nat) (r : OutputRecord) (k : Nat) :
    (s.setOutput o r).slot k = s.slot k := rfl
@[simp] theorem State.slot_setPermit (s : State) (p : Nat) (x : Option Nat) (k : Nat) :
    (s.setPermit p x).slot k = s.slot k := rfl
@[simp] theorem State.slot_setQueue (s : State) (q : List Nat) (k : Nat) : (s.setQueue q).slot k = s.slot k := rfl
@[simp] theorem State.slot_append (s : State) (l : Lane) (r : Record) (k : Nat) : (s.append l r).slot k = s.slot k := rfl

end Sys2Proof.Machine
end

