-- ==== Sys2Proof/Laws/Linking.lean ====
section
/-! SUPPORT. What the desk link's shared operations can do: the arbiter, the expiries at once, the end of an event, the
serving of a request. -/

namespace Sys2Proof.Machine

/-- A property kept, besides, by updates of the link and by records leaving a lane. -/
structure KeptByLink (P : State → Prop) : Prop extends Kept P where
  link : ∀ s x, P s → P (s.setLink x)
  drop : ∀ s l n, P s → P (s.dropRecords l n)

namespace KeptByLink

variable {P : State → Prop} (K : KeptByLink P)
include K

theorem startReport {s : State} {l : Lane} (h : P s) : P (s.startReport l) :=
  K.link _ _ (K.link _ _ (K.refill (K.drop _ _ _ h)))

theorem chooseFrame {s : State} (h : P s) : P s.chooseFrame := by
  unfold State.chooseFrame
  split
  · exact h
  · split
    · exact K.link _ _ (K.link _ _ h)
    · split
      · split
        · exact K.startReport h
        · split
          · exact K.startReport h
          · exact h
      · exact h

theorem expireAtOnce {before s : State} {n : Nat} (h : P s) : P (State.expireAtOnce before s n) := by
  unfold State.expireAtOnce
  split
  · exact h
  · split
    · exact K.chooseFrame (K.expireTimer h)
    · exact h

theorem endZeroWatch {before s : State} {k : Nat} (h : P s) : P (State.endZeroWatch before s k) := by
  unfold State.endZeroWatch
  split
  · split
    · exact K.chooseFrame (K.endOperation h)
    · exact h
  · exact h

theorem settle {before s : State} (h : P s) : P (State.settle before s) :=
  kept_foldl (fun _ _ => K.endZeroWatch) _ (kept_foldl (fun _ _ => K.expireAtOnce) _ h)

theorem finish {before s : State} (h : P s) : P (State.finish before s) := K.settle (K.chooseFrame h)

theorem enqueue {s : State} {f : Frame} (h : P s) : P (s.enqueue f) := K.link s _ h

theorem answer {s : State} {f : Frame} {r : Reply} (h : P s) : P (s.answer f r) :=
  K.enqueue (K.link s { s.link with dropped := false } h)

theorem serveFrame {s : State} {f : Frame} {serve : State → State × Reply} (h : P (serve s).1) :
    P (s.serveFrame f serve) := K.finish (K.answer h)

/-- What a valid frame does keeps the property where its owner keeps it. -/
theorem takeFrame {s : State} {f : Frame} {serve : State → State × Reply} (h : P s) (served : P (serve s).1) :
    P (s.takeFrame f serve) := by
  unfold State.takeFrame
  split
  · exact h
  · split
    · exact K.link s _ h
    · split
      · exact K.finish (K.enqueue h)
      · split
        · exact h
        · exact K.serveFrame served

/-- What a request does keeps the property where its owner keeps it. -/
theorem request {s : State} {i : Instr} {serve : State → State × Reply} (h : P s) (served : P (serve s).1) :
    P (s.request i serve) := by
  unfold State.request
  split
  · exact K.takeFrame h served
  · exact h

/-- An event that falls due keeps the property where time and its own effect keep it. -/
theorem event {s : State} {due : Option Stamp} {act : Stamp → State → State} (h : P s)
    (later : ∀ t, s.time ≤ t → P (s.setTime t)) (effect : ∀ d t, P t → P (act d t)) : P (s.event due act) := by
  unfold State.event
  split
  · exact h
  · rename_i d
    unfold State.atDue
    dsimp only
    unfold State.reach
    split
    · exact h
    · rename_i t ht
      split at ht
      · obtain rfl := Option.some.inj ht
        exact K.finish (effect _ _ h)
      · rename_i past
        split at ht
        · obtain rfl := Option.some.inj ht
          exact K.finish (effect _ _ (later d (Nat.le_of_lt (Nat.lt_of_not_le past))))
        · exact absurd ht (by simp)

end KeptByLink

/-! ### The arbiter -/

theorem State.chooseFrame_of_sending {s : State} (h : s.link.sending.isSome = true) : s.chooseFrame = s := by
  simp [State.chooseFrame, h]

/-- A frame that joins the queue is followed by the choice of the transmitter, which takes a reply (R155). -/
theorem State.chooseFrame_enqueue (s : State) (f : Frame) :
    (s.enqueue f).chooseFrame
      = s.setLink (if s.link.sending.isSome then { s.link with replies := s.link.replies ++ [f] }
          else { s.link with replies := (s.link.replies ++ [f]).tail, sending := (s.link.replies ++ [f]).head? }) := by
  by_cases h : s.link.sending.isSome = true
  · rw [State.chooseFrame_of_sending (by simpa using h)]
    simp [State.enqueue, State.setReplies, h]
  · have none : s.link.sending = none := by simpa using h
    unfold State.chooseFrame
    rcases e : s.link.replies with _ | ⟨g, gs⟩ <;>
      simp [State.enqueue, State.setReplies, State.setSending, State.setLink, none, e]

/-- A reply joins the queue and the transmitter chooses (R153 to R155). -/
theorem State.chooseFrame_answer (s : State) (f : Frame) (r : Reply) :
    (s.answer f r).chooseFrame = s.setLink (s.link.answered (s.replyFrame f r)) := by
  unfold State.answer
  rw [State.chooseFrame_enqueue]
  by_cases h : s.link.sending.isSome = true <;>
    simp [State.clearDropped, State.setLink, Link.answered, h]

theorem Link.answered_sending (l : Link) (f : Frame) : (l.answered f).sending.isSome = true := by
  unfold Link.answered
  split
  · assumption
  · rcases l.replies with _ | ⟨g, gs⟩ <;> simp

/-! ### Expiries at once -/

theorem foldl_id {α : Type} {f : State → α → State} {s : State} (h : ∀ a, f s a = s) (as : List α) :
    as.foldl f s = s := by
  induction as with
  | nil => rfl
  | cons a as ih => rw [List.foldl_cons, h, ih]

/-- Nothing follows an event at once if it started no timer and no watch. -/
theorem State.settle_same {before s : State} (timers : ∀ n, (s.object n).timer = (before.object n).timer)
    (slots : ∀ k, (s.slot k).isWatching = true → (before.slot k).isWatching = true) : State.settle before s = s := by
  unfold State.settle
  have objects : ∀ n, State.expireAtOnce before s n = s := by
    intro n
    unfold State.expireAtOnce
    split
    · rfl
    · rename_i e he
      rw [if_neg]
      rintro ⟨_, hne⟩
      exact hne (by rw [← timers n, he])
  rw [foldl_id objects]
  refine foldl_id (fun k => ?_) _
  unfold State.endZeroWatch
  split
  · rename_i op e he
    rw [if_neg]
    rintro ⟨_, _, hb⟩
    have := slots k (by rw [he]; rfl)
    rw [this] at hb
    exact absurd hb (by simp)
  · rfl

/-- While a frame is being sent, what follows an event at once leaves the link alone. -/
theorem State.settle_link {before s : State} (h : s.link.sending.isSome = true) :
    (State.settle before s).link = s.link := by
  have K : Kept (fun t : State => t.link = s.link) :=
    ⟨⟨⟨fun _ _ => id, fun _ _ _ _ => id, fun _ _ _ => id, fun _ _ => id, fun _ _ _ => id, fun _ _ _ => id,
      fun _ _ _ => id, fun _ _ _ _ _ => id⟩, fun _ _ _ _ => id⟩, fun _ _ => id⟩
  have idle : ∀ t : State, t.link = s.link → t.chooseFrame = t := by
    intro t ht
    exact State.chooseFrame_of_sending (by rw [ht]; exact h)
  have objects : ∀ (t : State) (n : Nat), t.link = s.link → (State.expireAtOnce before t n).link = s.link := by
    intro t n ht
    unfold State.expireAtOnce
    split
    · exact ht
    · split
      · rw [idle _ (K.expireTimer ht)]
        exact K.expireTimer ht
      · exact ht
  have slots : ∀ (t : State) (k : Nat), t.link = s.link → (State.endZeroWatch before t k).link = s.link := by
    intro t k ht
    unfold State.endZeroWatch
    split
    · split
      · rw [idle _ (K.endOperation ht)]
        exact K.endOperation ht
      · exact ht
    · exact ht
  exact kept_foldl (P := fun t : State => t.link = s.link) slots _
    (kept_foldl (P := fun t : State => t.link = s.link) objects _ rfl)

/-! ### Serving -/

/-- A served request, whatever follows it at once: what its owner left, with its reply on the way, and then the end of the
event. -/
theorem State.serveFrame_finish (s : State) (f : Frame) (serve : State → State × Reply) :
    s.serveFrame f serve
      = State.finish s
          ((serve s).1.afterReply (replyKind f.kind) f.tag (serve s).2.result (serve s).2.fields) := by
  unfold State.serveFrame State.finish
  simp only [State.chooseFrame_answer]
  rw [State.chooseFrame_of_sending (by simpa [State.afterReply] using Link.answered_sending _ _)]
  rfl

/-- A request that starts no timer and no watch leaves what its owner left, with its reply on the way. -/
theorem State.serveFrame_quiet {s : State} {f : Frame} {serve : State → State × Reply}
    (timers : ∀ n, ((serve s).1.object n).timer = (s.object n).timer)
    (slots : ∀ k, ((serve s).1.slot k).isWatching = true → (s.slot k).isWatching = true) :
    s.serveFrame f serve
      = (serve s).1.setLink ((serve s).1.link.answered ((serve s).1.replyFrame f (serve s).2)) := by
  unfold State.serveFrame State.finish
  simp only [State.chooseFrame_answer]
  exact State.settle_same timers slots

/-- The link after a served request, whatever follows it at once: its reply has joined the queue. -/
theorem State.serveFrame_link (s : State) (f : Frame) (serve : State → State × Reply) :
    (s.serveFrame f serve).link = (serve s).1.link.answered ((serve s).1.replyFrame f (serve s).2) := by
  unfold State.serveFrame State.finish
  simp only [State.chooseFrame_answer]
  rw [State.settle_link (by simpa using Link.answered_sending _ _)]
  rfl

/-- In a mode that serves requests, a valid frame of another KIND than 0x70 is served by its owner (R151). -/
theorem State.takeFrame_serves {s : State} {f : Frame} {serve : State → State × Reply} (h : s.serves)
    (kind : f.kind ≠ kindDiscarded) : s.takeFrame f serve = s.serveFrame f serve := by
  obtain ⟨takes, room, mode⟩ := h
  simp [State.takeFrame, takes, room, mode, kind]

/-- A request is served by its owner (R151). -/
theorem State.request_serves {s : State} {i : Instr} {f : Frame} {serve : State → State × Reply} (h : s.serves)
    (frame : encodeRequest i = some f) (kind : f.kind ≠ kindDiscarded) : s.request i serve = s.serveFrame f serve := by
  unfold State.request
  rw [frame]
  exact State.takeFrame_serves h kind

/-- A request that changes nothing but the link. -/
theorem State.request_reads {s : State} {i : Instr} {f : Frame} {serve : State → State × Reply} (h : s.serves)
    (frame : encodeRequest i = some f) (kind : f.kind ≠ kindDiscarded) (same : (serve s).1 = s) :
    s.request i serve = s.afterReply (replyKind f.kind) f.tag (serve s).2.result (serve s).2.fields := by
  rw [State.request_serves h frame kind, State.serveFrame_quiet (by simp [same]) (by simp [same]), same]
  rfl

/-! ### Properties every operation keeps -/

theorem SameGround.refl (s : State) : SameGround s s := ⟨rfl, rfl, rfl, rfl, rfl, rfl, rfl, rfl, rfl, rfl⟩

theorem SameGround.trans {a b c : State} (h : SameGround a b) (k : SameGround b c) : SameGround a c :=
  ⟨k.power.trans h.power, k.straps.trans h.straps, k.time.trans h.time, k.scanner.trans h.scanner,
    k.filter.trans h.filter, k.flash.trans h.flash, k.index.trans h.index, k.inhibit.trans h.inhibit,
    k.store.trans h.store, k.pending.trans h.pending⟩

/-- The operations of journal, press unit, resolver and link leave the other blocks alone. -/
theorem sameGround_kept (s : State) : KeptByLink (SameGround s) where
  outputs _ _ h := ⟨h.1, h.2, h.3, h.4, h.5, h.6, h.7, h.8, h.9, h.10⟩
  slot _ _ _ _ h := ⟨h.1, h.2, h.3, h.4, h.5, h.6, h.7, h.8, h.9, h.10⟩
  watch _ _ _ _ h := ⟨h.1, h.2, h.3, h.4, h.5, h.6, h.7, h.8, h.9, h.10⟩
  dirty _ _ _ h := ⟨h.1, h.2, h.3, h.4, h.5, h.6, h.7, h.8, h.9, h.10⟩
  permit _ _ _ h := ⟨h.1, h.2, h.3, h.4, h.5, h.6, h.7, h.8, h.9, h.10⟩
  queue _ _ h := ⟨h.1, h.2, h.3, h.4, h.5, h.6, h.7, h.8, h.9, h.10⟩
  objects _ _ h := ⟨h.1, h.2, h.3, h.4, h.5, h.6, h.7, h.8, h.9, h.10⟩
  modulePending _ _ _ h := ⟨h.1, h.2, h.3, h.4, h.5, h.6, h.7, h.8, h.9, h.10⟩
  outputPending _ _ _ h := ⟨h.1, h.2, h.3, h.4, h.5, h.6, h.7, h.8, h.9, h.10⟩
  append _ _ _ _ _ h := ⟨h.1, h.2, h.3, h.4, h.5, h.6, h.7, h.8, h.9, h.10⟩
  link _ _ h := ⟨h.1, h.2, h.3, h.4, h.5, h.6, h.7, h.8, h.9, h.10⟩
  drop _ _ _ h := ⟨h.1, h.2, h.3, h.4, h.5, h.6, h.7, h.8, h.9, h.10⟩

/-- The lanes keep their bounds through every operation (R98). -/
theorem lanesBounded_kept : KeptByLink LanesBounded where
  outputs _ _ h := h
  slot _ _ _ _ h := h
  watch _ _ _ _ h := h
  dirty _ _ _ h := h
  permit _ _ _ h := h
  queue _ _ h := h
  objects _ _ h := h
  modulePending s i x h := fun l => by rw [State.lane_setModulePending]; exact h l
  outputPending s o x h := fun l => by rw [State.lane_setOutputPending]; exact h l
  append s l r place _ h := by
    intro l'
    rw [State.hasPlace_iff] at place
    by_cases e : l' = l
    · subst e
      simp only [State.lane_append_self, List.length_append, List.length_cons, List.length_nil]
      omega
    · have : (s.append l r).lane l' = s.lane l' := by cases l <;> cases l' <;> first | rfl | exact absurd rfl e
      rw [this]
      exact h l'
  link _ _ h := h
  drop s l n h := by
    intro l'
    by_cases e : l' = l
    · subst e
      have : (s.dropRecords l' n).lane l' = (s.lane l').drop n := by cases l' <;> rfl
      rw [this]
      have := h l'
      simp only [List.length_drop]
      omega
    · have : (s.dropRecords l n).lane l' = s.lane l' := by cases l <;> cases l' <;> first | rfl | exact absurd rfl e
      rw [this]
      exact h l'

end Sys2Proof.Machine
end

