-- ==== Sys2Proof/Laws/PerInstr.lean ====
section
/-! SUPPORT. For every command, as syntax: if it is a request, the reply to its frame does not carry the REPORT KIND (R152). -/

namespace Sys2Proof.Laws.NoReplyIsReport

open Sys2Proof Sys2Proof.Machine

/-- The frame of the request has a KIND whose reply KIND is not that of a REPORT frame. -/
def Statement (i : Instr) : Prop := ∀ f, encodeRequest i = some f → f.kind + 0x80#8 ≠ kindReport

/-- A command whose frame has this KIND. -/
theorem of_kind {i : Instr} {kind tag : Octet} {body : List Octet} (h : encodeRequest i = some ⟨kind, tag, body⟩)
    (k : kind + 0x80#8 ≠ kindReport) : Statement i := by
  intro f e
  rw [h] at e
  rw [← Option.some.inj e]
  exact k

/-- A command that is no request. -/
theorem of_none {i : Instr} (h : encodeRequest i = none) : Statement i := by
  intro f e
  rw [h] at e
  exact absurd e (by simp)

theorem powerOn (straps : Straps) : Statement (.powerOn straps) := of_none rfl
theorem powerLoss : Statement (.powerLoss) := of_none rfl
theorem startUpLoadComplete : Statement (.startUpLoadComplete) := of_none rfl
theorem scanStart : Statement (.scanStart) := of_none rfl
theorem scanCompletion (reads : List ModuleRead) : Statement (.scanCompletion reads) := of_none rfl
theorem objectTimerExpiry (object : Nat) : Statement (.objectTimerExpiry object) := of_none rfl
theorem pulseEnd (output : Nat) : Statement (.pulseEnd output) := of_none rfl
theorem windowExpiry (output : Nat) : Statement (.windowExpiry output) := of_none rfl
theorem gapExpiry (slot : Nat) : Statement (.gapExpiry slot) := of_none rfl
theorem watchExpiry (slot : Nat) : Statement (.watchExpiry slot) := of_none rfl
theorem saveWritingEnd (memory : Option StoredImage) : Statement (.saveWritingEnd memory) := of_none rfl
theorem saveCompletion : Statement (.saveCompletion) := of_none rfl
theorem frameDiscarded (cause : DiscardCause) : Statement (.frameDiscarded cause) := of_none rfl
theorem requestDropped (frame : Frame) : Statement (.requestDropped frame) := of_none rfl
theorem unknownKind (frame : Frame) : Statement (.unknownKind frame) := of_none rfl
theorem echoFrame (frame : Frame) : Statement (.echoFrame frame) := of_none rfl
theorem frameSent : Statement (.frameSent) := of_none rfl
theorem identify (tag : Octet) : Statement (.identify tag) := of_kind rfl (by decide)
theorem readTime (tag : Octet) : Statement (.readTime tag) := of_kind rfl (by decide)
theorem setMode (tag : Octet) (mode : Nat) : Statement (.setMode tag mode) := of_kind rfl (by decide)
theorem flow (tag : Octet) (hold : Nat) : Statement (.flow tag hold) := of_kind rfl (by decide)
theorem fetch (tag : Octet) (selection count : Nat) :
    Statement (.fetch tag selection count) := of_kind rfl (by decide)
theorem sync (tag : Octet) : Statement (.sync tag) := of_kind rfl (by decide)
theorem setScan (tag : Octet) (period tolerance : Nat) :
    Statement (.setScan tag period tolerance) := of_kind rfl (by decide)
theorem defineModules (tag : Octet) (entries : List ModuleEntryField) :
    Statement (.defineModules tag entries) := of_kind rfl (by decide)
theorem moduleServiceOut (tag : Octet) (slot : Nat) :
    Statement (.moduleServiceOut tag slot) := of_kind rfl (by decide)
theorem moduleServiceIn (tag : Octet) (slot : Nat) : Statement (.moduleServiceIn tag slot) := of_kind rfl (by decide)
theorem readModules (tag : Octet) (start count : Nat) :
    Statement (.readModules tag start count) := of_kind rfl (by decide)
theorem defineProfile (tag : Octet) (profile k h l flash : Nat) :
    Statement (.defineProfile tag profile k h l flash) := of_kind rfl (by decide)
theorem assignProfile (tag : Octet) (first last profile : Nat) :
    Statement (.assignProfile tag first last profile) := of_kind rfl (by decide)
theorem defineFlash (tag : Octet) (profile pMin pMax dMin dMax confirm active : Nat) :
    Statement (.defineFlash tag profile pMin pMax dMin dMax confirm active) := of_kind rfl (by decide)
theorem readContacts (tag : Octet) (start count : Nat) :
    Statement (.readContacts tag start count) := of_kind rfl (by decide)
theorem defineObject (tag : Octet) (object kind urgency timing : Nat) (refs : List ReferenceField) :
    Statement (.defineObject tag object kind urgency timing refs) := of_kind rfl (by decide)
theorem removeObject (tag : Octet) (object : Nat) : Statement (.removeObject tag object) := of_kind rfl (by decide)
theorem objectServiceIn (tag : Octet) (object : Nat) :
    Statement (.objectServiceIn tag object) := of_kind rfl (by decide)
theorem objectServiceOut (tag : Octet) (object : Nat) :
    Statement (.objectServiceOut tag object) := of_kind rfl (by decide)
theorem readDefinition (tag : Octet) (object : Nat) :
    Statement (.readDefinition tag object) := of_kind rfl (by decide)
theorem readObjects (tag : Octet) (start count : Nat) :
    Statement (.readObjects tag start count) := of_kind rfl (by decide)
theorem check (tag : Octet) (items : List CheckItemField) : Statement (.check tag items) := of_kind rfl (by decide)
theorem clearLatchObject (tag : Octet) (number : Nat) :
    Statement (.clearLatchObject tag number) := of_kind rfl (by decide)
theorem clearLatchModule (tag : Octet) (number : Nat) :
    Statement (.clearLatchModule tag number) := of_kind rfl (by decide)
theorem clearLatchOutput (tag : Octet) (number : Nat) :
    Statement (.clearLatchOutput tag number) := of_kind rfl (by decide)
theorem defineOutput (tag : Octet) (output defined pulse readback sense : Nat) :
    Statement (.defineOutput tag output defined pulse readback sense) := of_kind rfl (by decide)
theorem press (tag : Octet) (deskTag : Nat) (steps : List Nat) (gap watch : Nat) (items : List CheckItemField) :
    Statement (.press tag deskTag steps gap watch items) := of_kind rfl (by decide)
theorem pressStatus (tag : Octet) (slot : Nat) : Statement (.pressStatus tag slot) := of_kind rfl (by decide)
theorem pressAbort (tag : Octet) (slot : Nat) : Statement (.pressAbort tag slot) := of_kind rfl (by decide)
theorem pressInhibitOn (tag : Octet) : Statement (.pressInhibitOn tag) := of_kind rfl (by decide)
theorem pressInhibitOff (tag : Octet) : Statement (.pressInhibitOff tag) := of_kind rfl (by decide)
theorem readOutputs (tag : Octet) (start count : Nat) :
    Statement (.readOutputs tag start count) := of_kind rfl (by decide)
theorem save (tag : Octet) : Statement (.save tag) := of_kind rfl (by decide)
theorem storeStatus (tag : Octet) : Statement (.storeStatus tag) := of_kind rfl (by decide)
theorem restart (tag : Octet) : Statement (.restart tag) := of_kind rfl (by decide)
theorem octetReceived (octet : Octet) : Statement (.octetReceived octet) := of_none rfl

end Sys2Proof.Laws.NoReplyIsReport
end

