-- ==== Sys2Proof/Laws/Relays.lean ====
section
/-! SUPPORT. What a refill, the start of a frame and a quiet event leave of the part, and what a refill leaves of a
lane. -/

namespace Sys2Proof.Machine

theorem ObjectRecord.sameState_refl (o : ObjectRecord) : o.sameState o := rfl

theorem ObjectRecord.sameState.trans {a b c : ObjectRecord} (h : a.sameState b) (k : b.sameState c) :
    a.sameState c := by
  unfold ObjectRecord.sameState at *
  rw [← k, ← h]

theorem ObjectRecord.sameState.timer {a b : ObjectRecord} (h : a.sameState b) : b.timer = a.timer := by rw [← h]

theorem ObjectRecord.sameState.service {a b : ObjectRecord} (h : a.sameState b) : b.service = a.service := by rw [← h]

theorem ObjectRecord.sameState.presented {a b : ObjectRecord} (h : a.sameState b) : b.presented = a.presented := by
  rw [← h]

theorem ObjectRecord.sameState.lastStamp {a b : ObjectRecord} (h : a.sameState b) : b.lastStamp = a.lastStamp := by
  rw [← h]

theorem ObjectRecord.sameState.latch {a b : ObjectRecord} (h : a.sameState b) : b.latch = a.latch := by rw [← h]

theorem ObjectRecord.sameState.definition {a b : ObjectRecord} (h : a.sameState b) : b.definition = a.definition := by
  rw [← h]

theorem SameRelays.refl (s : State) : SameRelays s s :=
  ⟨rfl, rfl, rfl, rfl, rfl, rfl, rfl, fun _ => rfl, rfl, fun _ => .inl rfl, rfl, rfl, rfl, rfl, rfl⟩

theorem SameRelays.trans {a b c : State} (h : SameRelays a b) (k : SameRelays b c) : SameRelays a c where
  power := k.power.trans h.power
  straps := k.straps.trans h.straps
  time := k.time.trans h.time
  scanner := k.scanner.trans h.scanner
  filter := k.filter.trans h.filter
  flash := k.flash.trans h.flash
  index := k.index.trans h.index
  objects n := (h.objects n).trans (k.objects n)
  outputs := k.outputs.trans h.outputs
  slots n := by
    rcases h.slots n with e | ⟨tag, rep, e, f⟩
    · rcases k.slots n with e' | ⟨tag, rep, e', f'⟩
      · exact .inl (e'.trans e)
      · exact .inr ⟨tag, rep, e ▸ e', f'⟩
    · rcases k.slots n with e' | ⟨tag', rep', e', _⟩
      · exact .inr ⟨tag, rep, e, e'.trans f⟩
      · rw [f] at e'
        exact absurd e' (by simp)
  permits := k.permits.trans h.permits
  queue := k.queue.trans h.queue
  inhibit := k.inhibit.trans h.inhibit
  store := k.store.trans h.store
  pending := k.pending.trans h.pending

/-- An update of link or journal alone. -/
theorem SameRelays.of_link (s : State) (x : Link) : SameRelays s (s.setLink x) :=
  ⟨rfl, rfl, rfl, rfl, rfl, rfl, rfl, fun _ => rfl, rfl, fun _ => .inl rfl, rfl, rfl, rfl, rfl, rfl⟩

theorem SameRelays.of_journal (s : State) (x : Journal) : SameRelays s (s.setJournal x) :=
  ⟨rfl, rfl, rfl, rfl, rfl, rfl, rfl, fun _ => rfl, rfl, fun _ => .inl rfl, rfl, rfl, rfl, rfl, rfl⟩

theorem SameRelays.of_dirty (s : State) (n : Nat) (m : Option Lane) : SameRelays s (s.setDirty n m) := by
  refine ⟨rfl, rfl, rfl, rfl, rfl, rfl, rfl, fun i => ?_, rfl, fun _ => .inl rfl, rfl, rfl, rfl, rfl, rfl⟩
  unfold State.setDirty
  rw [State.object_setObject]
  split
  · rename_i h
    rw [← h.1]
    rfl
  · rfl

theorem SameRelays.of_freed {s : State} {k tag : Nat} {rep : EndReport} (h : s.slot k = .ended tag rep) :
    SameRelays s (s.setSlot k (.free (some rep))) := by
  refine ⟨rfl, rfl, rfl, rfl, rfl, rfl, rfl, fun _ => rfl, rfl, fun i => ?_, rfl, rfl, rfl, rfl, rfl⟩
  rw [State.slot_setSlot]
  split
  · rename_i e
    exact .inr ⟨tag, rep, e.1 ▸ h, rfl⟩
  · exact .inl rfl

theorem State.appendPending_sameRelays (s : State) (l : Lane) (p : PendingItem) :
    SameRelays s (s.appendPending l p) := by
  unfold State.appendPending
  split
  · split
    · exact (SameRelays.of_journal _ _).trans (SameRelays.of_journal _ _)
    · exact .refl s
  · split
    · exact (SameRelays.of_journal _ _).trans (SameRelays.of_journal _ _)
    · exact .refl s
  · split
    · rename_i h
      exact (SameRelays.of_journal s _).trans (SameRelays.of_freed (s := s.append l _) h)
    · exact .refl s
  · exact (SameRelays.of_journal s _).trans (SameRelays.of_dirty (s.append l _) _ _)

theorem State.refillUpTo_sameRelays (l : Lane) (n : Nat) (s : State) : SameRelays s (State.refillUpTo l n s) := by
  induction n generalizing s with
  | zero => exact .refl s
  | succ n ih =>
    unfold State.refillUpTo
    split
    · exact .refl s
    · exact (s.appendPending_sameRelays l _).trans (ih _)

theorem State.refill_sameRelays (s : State) (l : Lane) : SameRelays s (s.refill l) :=
  State.refillUpTo_sameRelays _ _ _

theorem State.dropRecords_sameRelays (s : State) (l : Lane) (n : Nat) : SameRelays s (s.dropRecords l n) :=
  SameRelays.of_journal _ _

theorem State.startReport_sameRelays (s : State) (l : Lane) : SameRelays s (s.startReport l) := by
  unfold State.startReport
  exact ((s.dropRecords_sameRelays l _).trans (State.refill_sameRelays _ l)).trans
    ((SameRelays.of_link _ _).trans (SameRelays.of_link _ _))

/-- The start of a frame moves no relay, module, object state, output or permit. -/
theorem State.chooseFrame_sameRelays (s : State) : SameRelays s s.chooseFrame := by
  unfold State.chooseFrame
  split
  · exact .refl s
  · split
    · exact (SameRelays.of_link _ _).trans (SameRelays.of_link _ _)
    · split
      · split
        · exact s.startReport_sameRelays _
        · split
          · exact s.startReport_sameRelays _
          · exact .refl s
      · exact .refl s

theorem SameRelays.timers {s t : State} (h : SameRelays s t) (n : Nat) : (t.object n).timer = (s.object n).timer :=
  (h.objects n).timer

theorem SameRelays.watching {s t : State} (h : SameRelays s t) (k : Nat) (w : (t.slot k).isWatching = true) :
    (s.slot k).isWatching = true := by
  rcases h.slots k with e | ⟨tag, rep, _, f⟩
  · rw [← e]
    exact w
  · rw [f] at w
    exact absurd w (by simp [Slot.isWatching])

/-- The end of an event that started no timer and no watch: at most a frame begins. -/
theorem State.finish_quiet {before s : State} (timers : ∀ n, (s.object n).timer = (before.object n).timer)
    (slots : ∀ k, (s.slot k).isWatching = true → (before.slot k).isWatching = true) :
    State.finish before s = s.chooseFrame := by
  unfold State.finish
  have r := s.chooseFrame_sameRelays
  exact State.settle_same (fun n => (r.timers n).trans (timers n)) (fun k w => slots k (r.watching k w))

/-! ### What a refill leaves of a lane -/

theorem State.lane_append_prefix (s : State) (l m : Lane) (r : Record) : s.lane m <+: (s.append l r).lane m := by
  by_cases e : m = l
  · subst e
    simp
  · have : (s.append l r).lane m = s.lane m := by cases l <;> cases m <;> first | rfl | exact absurd rfl e
    rw [this]

theorem State.appendPending_prefix (s : State) (l m : Lane) (p : PendingItem) :
    s.lane m <+: (s.appendPending l p).lane m := by
  unfold State.appendPending
  split
  · split
    · rw [State.lane_setModulePending]
      exact s.lane_append_prefix l m _
    · exact List.prefix_refl _
  · split
    · rw [State.lane_setOutputPending]
      exact s.lane_append_prefix l m _
    · exact List.prefix_refl _
  · split
    · rw [State.lane_setSlot]
      exact s.lane_append_prefix l m _
    · exact List.prefix_refl _
  · rw [State.lane_setDirty]
    exact s.lane_append_prefix l m _

/-- A refill appends at the tail and takes nothing (R98, R106). -/
theorem State.refill_prefix (s : State) (l m : Lane) : s.lane m <+: (s.refill l).lane m := by
  unfold State.refill
  generalize l.places - (s.lane l).length = n
  induction n generalizing s with
  | zero => exact List.prefix_refl _
  | succ n ih =>
    unfold State.refillUpTo
    split
    · exact List.prefix_refl _
    · exact (s.appendPending_prefix l m _).trans (ih _)

/-! ### An event that falls due -/

theorem State.event_reached {s : State} {d : Stamp} {act : Stamp → State → State} (h : s.mayReach d) :
    s.event (some d) act = State.finish (s.at d) (act d (s.at d)) := by
  have key : s.reach d = some (s.at d) := by
    unfold State.reach State.at
    by_cases le : d ≤ s.time
    · rw [if_pos le, Nat.max_eq_left le]
      rfl
    · have owed := h.resolve_left le
      rw [if_neg le, if_pos, Nat.max_eq_right (Nat.le_of_lt (Nat.lt_of_not_le le))]
      simp only [Bool.and_eq_true, List.all_eq_true, decide_eq_true_eq]
      exact owed
  simp [State.event, State.atDue, key]

end Sys2Proof.Machine
end

