-- ==== Sys2Proof/Tests/Slice0.lean ====
section
/-! SUPPORT. The model's own tests: ill-formed commands, the frame check and layouts against the spec's worked values,
small steps, and for each statement with hypotheses a state and operands that meet them. -/

namespace Sys2Proof.Tests

open Sys2Proof Sys2Proof.Machine

/-! ### Ill-formed commands -/

theorem test_ill_formed_events :
    WellFormed (.powerOn ⟨false, false, 32, false, false⟩) = false ∧
    WellFormed (.scanCompletion [⟨32, .nothing⟩]) = false ∧
    WellFormed (.scanCompletion [⟨3, .nothing⟩, ⟨3, .parityError⟩]) = false ∧
    WellFormed (.objectTimerExpiry 512) = false ∧ WellFormed (.pulseEnd 64) = false ∧
    WellFormed (.windowExpiry 64) = false ∧ WellFormed (.gapExpiry 4) = false ∧ WellFormed (.watchExpiry 4) = false ∧
    WellFormed (.requestDropped ⟨1, 0, List.replicate 199 0⟩) = false ∧
    WellFormed (.unknownKind ⟨1, 0, List.replicate 199 0⟩) = false ∧
    WellFormed (.echoFrame ⟨1, 0, List.replicate 199 0⟩) = false := by decide +kernel

theorem test_ill_formed_scanner_and_filter_requests :
    WellFormed (.setMode 0 256) = false ∧ WellFormed (.flow 0 256) = false ∧
    WellFormed (.fetch 0 256 0) = false ∧ WellFormed (.fetch 0 0 256) = false ∧
    WellFormed (.setScan 0 256 0) = false ∧ WellFormed (.setScan 0 0 256) = false ∧
    WellFormed (.defineModules 0 [⟨256, 16, 0⟩]) = false ∧ WellFormed (.defineModules 0 [⟨0, 256, 0⟩]) = false ∧
    WellFormed (.defineModules 0 [⟨0, 16, 65536⟩]) = false ∧
    WellFormed (.defineModules 0 (List.replicate 50 ⟨0, 16, 0⟩)) = false ∧
    WellFormed (.moduleServiceOut 0 256) = false ∧ WellFormed (.moduleServiceIn 0 256) = false ∧
    WellFormed (.readModules 0 256 0) = false ∧ WellFormed (.readModules 0 0 256) = false ∧
    WellFormed (.defineProfile 0 256 0 0 0 0) = false ∧ WellFormed (.defineProfile 0 0 256 0 0 0) = false ∧
    WellFormed (.defineProfile 0 0 0 256 0 0) = false ∧ WellFormed (.defineProfile 0 0 0 0 65536 0) = false ∧
    WellFormed (.defineProfile 0 0 0 0 0 256) = false ∧ WellFormed (.assignProfile 0 65536 0 0) = false ∧
    WellFormed (.assignProfile 0 0 65536 0) = false ∧ WellFormed (.assignProfile 0 0 0 256) = false ∧
    WellFormed (.defineFlash 0 256 0 0 0 0 0 0) = false ∧ WellFormed (.defineFlash 0 0 65536 0 0 0 0 0) = false ∧
    WellFormed (.defineFlash 0 0 0 65536 0 0 0 0) = false ∧ WellFormed (.defineFlash 0 0 0 0 256 0 0 0) = false ∧
    WellFormed (.defineFlash 0 0 0 0 0 256 0 0) = false ∧ WellFormed (.defineFlash 0 0 0 0 0 0 256 0) = false ∧
    WellFormed (.defineFlash 0 0 0 0 0 0 0 256) = false ∧ WellFormed (.readContacts 0 65536 0) = false ∧
    WellFormed (.readContacts 0 0 256) = false := by decide +kernel

theorem test_ill_formed_object_requests :
    WellFormed (.defineObject 0 65536 0 0 0 []) = false ∧ WellFormed (.defineObject 0 0 256 0 0 []) = false ∧
    WellFormed (.defineObject 0 0 0 256 0 []) = false ∧ WellFormed (.defineObject 0 0 0 0 65536 []) = false ∧
    WellFormed (.defineObject 0 0 0 0 0 [⟨65536, 0, 0⟩]) = false ∧
    WellFormed (.defineObject 0 0 0 0 0 [⟨0, 256, 0⟩]) = false ∧
    WellFormed (.defineObject 0 0 0 0 0 [⟨0, 0, 256⟩]) = false ∧
    WellFormed (.defineObject 0 0 0 0 0 (List.replicate 48 ⟨0, 0, 0⟩)) = false ∧
    WellFormed (.removeObject 0 65536) = false ∧ WellFormed (.objectServiceIn 0 65536) = false ∧
    WellFormed (.objectServiceOut 0 65536) = false ∧ WellFormed (.readDefinition 0 65536) = false ∧
    WellFormed (.readObjects 0 65536 0) = false ∧ WellFormed (.readObjects 0 0 256) = false ∧
    WellFormed (.check 0 [⟨65536, 0, 0, 0⟩]) = false ∧ WellFormed (.check 0 [⟨0, 256, 0, 0⟩]) = false ∧
    WellFormed (.check 0 [⟨0, 0, 256, 0⟩]) = false ∧ WellFormed (.check 0 [⟨0, 0, 0, 256⟩]) = false ∧
    WellFormed (.check 0 (List.replicate 40 ⟨0, 0, 0, 0⟩)) = false ∧
    WellFormed (.clearLatchObject 0 65536) = false ∧ WellFormed (.clearLatchModule 0 65536) = false ∧
    WellFormed (.clearLatchOutput 0 65536) = false := by decide +kernel

theorem test_ill_formed_press_requests :
    WellFormed (.defineOutput 0 256 0 0 0 0) = false ∧ WellFormed (.defineOutput 0 0 256 0 0 0) = false ∧
    WellFormed (.defineOutput 0 0 0 65536 0 0) = false ∧ WellFormed (.defineOutput 0 0 0 0 65536 0) = false ∧
    WellFormed (.defineOutput 0 0 0 0 0 256) = false ∧ WellFormed (.press 0 65536 [] 0 0 []) = false ∧
    WellFormed (.press 0 0 [256] 0 0 []) = false ∧ WellFormed (.press 0 0 [] 65536 0 []) = false ∧
    WellFormed (.press 0 0 [] 0 65536 []) = false ∧ WellFormed (.press 0 0 [] 0 0 [⟨65536, 0, 0, 0⟩]) = false ∧
    WellFormed (.press 0 0 (List.replicate 191 0) 0 0 []) = false ∧ WellFormed (.pressStatus 0 256) = false ∧
    WellFormed (.pressAbort 0 256) = false ∧ WellFormed (.readOutputs 0 256 0) = false ∧
    WellFormed (.readOutputs 0 0 256) = false := by decide +kernel

/-! ### Layouts against the spec's worked values -/

/-- The check over 123456789, and after each octet of the worked READ-TIME request (R150). -/
theorem test_check_of_worked_octets :
    crc [0x31, 0x32, 0x33, 0x34, 0x35, 0x36, 0x37, 0x38, 0x39] = 0x29B1#16 ∧
    crc [0x02] = 0xC1B2#16 ∧ crc [0x02, 0x02] = 0x5B2F#16 ∧ crc [0x02, 0x02, 0x17] = 0xA648#16 := by decide +kernel

theorem test_worked_read_time_on_the_line :
    frameOctets ⟨0x02, 0x17, []⟩ = [0xC5, 0x02, 0x02, 0x17, 0xA6, 0x48] ∧
    decodeRequest ⟨0x02, 0x17, []⟩ = .request (.readTime 0x17) := by decide +kernel

/-- Requests written out octet by octet from the table of R168. -/
theorem test_requests_read_from_octets :
    decodeRequest ⟨0x05, 1, [1, 8]⟩ = .request (.fetch 1 1 8) ∧
    decodeRequest ⟨0x11, 2, [2, 0, 16, 0, 15, 4, 64, 0x00, 79]⟩ = .request (.defineModules 2 [⟨0, 16, 15⟩, ⟨4, 64, 79⟩]) ∧
    decodeRequest ⟨0x12, 3, [7, 0]⟩ = .request (.moduleServiceOut 3 7) ∧
    decodeRequest ⟨0x12, 3, [7, 1]⟩ = .request (.moduleServiceIn 3 7) ∧
    decodeRequest ⟨0x19, 4, [0, 0, 0x07, 0xFF, 15]⟩ = .request (.assignProfile 4 0 2047 15) ∧
    decodeRequest ⟨0x20, 5, [0x01, 0xFF, 1, 0, 0x27, 0x10, 1, 0x01, 0x02, 0, 1]⟩
      = .request (.defineObject 5 511 1 0 10000 [⟨258, 0, 1⟩]) ∧
    decodeRequest ⟨0x26, 6, [1, 0x01, 0x00]⟩ = .request (.clearLatchObject 6 256) ∧
    decodeRequest ⟨0x26, 6, [2, 0, 31]⟩ = .request (.clearLatchModule 6 31) ∧
    decodeRequest ⟨0x26, 6, [3, 0, 63]⟩ = .request (.clearLatchOutput 6 63) ∧
    decodeRequest ⟨0x31, 7, [0x12, 0x34, 2, 5, 9, 0x00, 0x64, 0xEA, 0x60, 1, 0, 4, 0x05, 0xFF, 2]⟩
      = .request (.press 7 0x1234 [5, 9] 100 60000 [⟨4, 5, 255, 2⟩]) ∧
    decodeRequest ⟨0x34, 8, [1]⟩ = .request (.pressInhibitOn 8) ∧
    decodeRequest ⟨0x34, 8, [0]⟩ = .request (.pressInhibitOff 8) := by decide +kernel

/-- Bodies that fit no layout, and codes of no row (R151, R170). -/
theorem test_bodies_that_are_refused :
    decodeRequest ⟨0x02, 0, [0]⟩ = .badLength ∧ decodeRequest ⟨0x05, 0, [1]⟩ = .badLength ∧
    decodeRequest ⟨0x11, 0, [2, 0, 16, 0, 15]⟩ = .badLength ∧ decodeRequest ⟨0x31, 0, [0, 0, 9, 1]⟩ = .badLength ∧
    decodeRequest ⟨0x12, 0, [7, 2]⟩ = .badCode true ∧ decodeRequest ⟨0x34, 0, [2]⟩ = .badCode false ∧
    decodeRequest ⟨0x26, 0, [4, 0, 0]⟩ = .badCode false ∧ decodeRequest ⟨0x70, 0, []⟩ = .notARequest := by decide +kernel

/-- One record of each type, octet by octet (R166). -/
theorem test_records_on_the_line :
    Record.octets (.change 0x102 ⟨.showing, some 2, ⟨true, false, false, false, false, true⟩⟩ .timer 0x10203)
      = [0x01, 0x01, 0x02, oct StateCode.showing.code, 0x02, 0x21, 0x02, 0, 0, 0, 1, 2, 3] ∧
    Record.octets (.refresh 5 (.plain .unknown) none)
      = [0x02, 0, 5, oct StateCode.unknown.code, 0xFF, 0, 0, 0xFF, 0xFF, 0xFF, 0xFF, 0xFF, 0xFF] ∧
    Record.octets (.module ⟨31, .failed, some .busCheck, 1⟩) = [0x03, 0, 31, 2, 0xFF, 0, 3, 0, 0, 0, 0, 0, 1] ∧
    Record.octets (.output ⟨63, .idle, .cleared, 1⟩) = [0x04, 0, 63, 0, 0xFF, 0, 4, 0, 0, 0, 0, 0, 1] ∧
    Record.octets (.pressEnd 3 0x1234 .driverFault (some 9) 1) = [0x05, 0x12, 0x34, 3, 9, 0, 4, 0, 0, 0, 0, 0, 1] := by
  decide +kernel

/-- An octet bit by bit (R147), and what the receiver makes of its levels when the stop bit stands at either level. -/
theorem test_octet_on_the_line :
    lineOctet 0xC5 = [.start, .stop, .start, .stop, .start, .start, .start, .stop, .stop, .stop] ∧
    sampleOctet [.start, .stop, .start, .stop, .start, .start, .start, .stop, .stop, .stop] = some (.octetReceived 0xC5) ∧
    sampleOctet [.start, .stop, .start, .stop, .start, .start, .start, .stop, .stop, .start]
      = some (.frameDiscarded .framingError) ∧
    (lineFrame ⟨0x02, 0x17, []⟩).length = 60 := by decide +kernel

/-! ### Contacts against the spec's worked sequences -/

/-- A contact with an accepted level under a profile. -/
def held (l : Level) (profile : Nat) : Contact := { Contact.fresh profile with accepted := some l }

/-- The run of R27 in 2.8: the third sample of OPEN in a row is accepted with the first one's stamp. -/
theorem test_bouncing_opening :
    filterContact .standard none 10010 ⟨false, some .closed⟩ { held .closed 0 with candidate := some ⟨.opened, 1, 10005⟩ }
      = (held .closed 0, none) ∧
    filterContact .standard none 10025 ⟨false, some .opened⟩ { held .closed 0 with candidate := some ⟨.opened, 2, 10015⟩ }
      = (held .opened 0, some 10015) := by decide +kernel

/-- The third edge of 2.9 reaches H, the leak at exactly L takes one count, and the last leak ends CHATTERING. -/
theorem test_bobbing_into_chatter :
    filterContact ⟨2, 3, 500, none⟩ none 5360 ⟨false, some .opened⟩
        { held .closed 4 with candidate := some ⟨.opened, 1, 5350⟩, chatterCount := 2, leakRef := some 5000 }
      = ({ held .opened 4 with chatterCount := 3, leakRef := some 5000, chattering := true }, some 5350) ∧
    filterContact ⟨2, 3, 500, none⟩ none 5500 ⟨false, some .opened⟩
        { held .opened 4 with chatterCount := 3, leakRef := some 5000, chattering := true }
      = ({ held .opened 4 with chatterCount := 2, leakRef := some 5500, chattering := true }, none) ∧
    filterContact ⟨2, 3, 500, none⟩ none 7000 ⟨false, some .closed⟩
        { held .closed 4 with chatterCount := 1, leakRef := some 6500, chattering := true }
      = (held .closed 4, some 7000) := by decide +kernel

/-- The window limits of 3.8, both ends included. -/
theorem test_window_limits :
    FlashProfile.standard.conforms 1000 (dutyOf 350 1000) = true ∧
    FlashProfile.standard.conforms 1000 (dutyOf 295 1000) = false ∧
    FlashProfile.standard.conforms 1000 (dutyOf 300 1000) = true ∧
    FlashProfile.standard.conforms 1000 (dutyOf 705 1000) = true ∧
    FlashProfile.standard.conforms 1000 (dutyOf 710 1000) = false ∧
    FlashProfile.standard.conforms 700 (dutyOf 350 700) = true ∧
    FlashProfile.standard.conforms 695 (dutyOf 345 695) = false ∧
    FlashProfile.standard.conforms 1400 (dutyOf 700 1400) = true ∧
    FlashProfile.standard.conforms 1405 (dutyOf 700 1405) = false := by decide +kernel

/-- The silence of 3.8.4 fires one millisecond past Pmax and not at it, and overtakes the relighting. -/
theorem test_silence_overtakes_relighting :
    silenceCheck .standard 41405 ⟨.flashing, some 39005, some 40005, 1, some 1000, some 500⟩
      = (⟨.flashing, some 39005, some 40005, 1, some 1000, some 500⟩, none) ∧
    classify .standard 41410 (some .opened) .nothing ⟨.flashing, some 39005, some 40005, 1, some 1000, some 500⟩
      = (⟨.steady, none, none, 0, some 1000, some 500⟩, some 41410) ∧
    classify .standard 41415 (some .closed) (.edge 41400) ⟨.steady, none, none, 0, some 1000, some 500⟩
      = (⟨.steady, some 41400, none, 0, some 1000, some 500⟩, none) := by decide +kernel

/-- IRREGULAR and its way out, as in 3.8.2. -/
theorem test_irregular_and_back :
    flashEdge .standard .closed 30655 ⟨.flashing, some 30005, some 30330, 1, none, none⟩
      = (⟨.irregular, some 30655, some 30330, 0, some 650, some 325⟩, some 30655) ∧
    flashEdge .standard .closed 31655 ⟨.irregular, some 30655, some 31155, 0, some 650, some 325⟩
      = (⟨.flashing, some 31655, some 31155, 1, some 1000, some 500⟩, some 31655) := by decide +kernel

/-! ### Small states -/

/-- An operating part with four contacts, two objects, three outputs, in a small form: short lists where the part has
long ones. -/
def small : State where
  power := .operating
  straps := ⟨false, false, 5, true, false⟩
  time := 1000
  scanner := ⟨.running, 9, 5, 2, [⟨0, 16, 15, .inService, 2, false, 0, .fresh, none⟩], none, some 1002, some 997⟩
  filter := ⟨[.standard], [held .closed 0, held .opened 0, .fresh 0, held .closed 0]⟩
  flash := [.standard]
  table := ⟨[⟨.inService, some ⟨.track, [⟨0, .clear, false⟩], 0, .normal⟩, some (.plain .clear), some 500, none, none, none⟩,
    ⟨.outOfService, some ⟨.points, [⟨0, .normalDetect, false⟩, ⟨1, .reverseDetect, false⟩], 5000, .normal⟩,
      some (.plain .outOfService), none, none, none, none⟩], [⟨0, 0, .level, false⟩]⟩
  journal := ⟨[], [], [none, none], [none, none, none]⟩
  press := ⟨[⟨true, 100, some 1, .closed, .idle, none, none, none, none⟩, ⟨true, 200, none, .closed, .idle, none, none, none, none⟩,
    .undefined], [.free none, .free none, .free none, .free none], [none, none], [], false⟩
  link := ⟨.hunting, [], none, .polled, false, false, false⟩
  store := ⟨.idle, .erased, false, none⟩
  pending := []

/-- The desk's reply frame to a command on a part whose transmitter is free. -/
def replyTo (i : Instr) (s : State) : Option Frame :=
  match exec i s with
  | .next t => t.link.sending
  | _ => none

/-- The worked FETCH reply of 9.6.1, octet by octet. -/
theorem test_worked_fetch_reply :
    replyTo (.fetch 0x31 0 8)
        { small with
          press := { small.press with inhibit := true }
          journal := { small.journal with
            urgent := [.change 40 ⟨.lost, none, ⟨false, false, false, false, false, true⟩⟩ .timer 206200] } }
      = some ⟨0x85, 0x31, [0x00, 0x22, 0, 0, 0, 0, 0, 0, 0x05, 0x01, 0x00,
          0x01, 0x00, 0x28, 0x23, 0xFF, 0x20, 0x02, 0x00, 0x00, 0x00, 0x03, 0x25, 0x78]⟩ := by decide +kernel

theorem test_small_replies :
    replyTo (.identify 9) small = some ⟨0x81, 9, [0, 0x02, 0, 0, 0, 0, 0, 0, 5, 0x71, 0x01, 5, 4]⟩ ∧
    replyTo (.readTime 9) small
      = some ⟨0x82, 9, [0, 0x02, 0, 0, 0, 0, 0, 0, 5, 0, 0, 0, 0, 0x03, 0xE8, 0, 0, 0, 0, 0x03, 0xE5]⟩ ∧
    replyTo (.setScan 9 3 16) small = some ⟨0x90, 9, [0, 0x02, 0, 0, 0, 0, 0, 0, 5, 5, 15]⟩ ∧
    replyTo (.objectServiceIn 9 1) small = some ⟨0xA2, 9, [0, 0x02, 0, 1, 0, 0, 0, 0, 5, 0x20, 0xFF, 0]⟩ ∧
    replyTo (.press 9 7 [0, 1] 100 0 []) small = some ⟨0xB1, 9, [0, 0x02, 0, 0, 0, 0, 0, 1, 5, 0, 0, 100, 0, 0]⟩ ∧
    replyTo (.press 9 7 [1, 2] 100 0 []) small = some ⟨0xB1, 9, [4, 0x02, 0, 0, 0, 0, 0, 0, 5, 2]⟩ := by decide +kernel

/-- The state after one command. -/
def after (i : Instr) (s : State) : State :=
  match exec i s with
  | .next t => t
  | _ => s

/-- A small part with K = 1 whose module has been read at 1002. -/
def scanning : State :=
  { small with
    filter := ⟨[⟨1, 0, 1000, none⟩], small.filter.contacts⟩
    scanner := { small.scanner with scan := some ⟨1002, [0], []⟩ } }

def trackOpened : State := after (.scanCompletion [⟨0, .answer .size16 0#64⟩]) scanning

/-- A scan completes at 1002: the closed contact opens at K = 1, and the TRACK is OCCUPIED with the sample's stamp. -/
theorem test_scan_makes_track_occupied :
    trackOpened.lane .routine = [.change 0 (.plain .occupied) .contact 1002] ∧ trackOpened.accepted 0 = some .opened ∧
    trackOpened.scanner.lastSample = some 1002 ∧ trackOpened.scanner.scan = none := by decide +kernel

def moduleLost : State :=
  after (.scanCompletion [⟨0, .parityError⟩])
      { small with
        scanner := { small.scanner with
          modules := [⟨0, 16, 15, .inService, 0, true, 0, .fresh, none⟩]
          scan := some ⟨1002, [0], []⟩ } }

/-- A module out of credit fails: its contacts lose their level, the item comes first, the TRACK is UNKNOWN by MODULE. -/
theorem test_module_failure_reaches_the_journal :
    moduleLost.lane .urgent
      = [.module ⟨0, .failed, some .busCheck, 1002⟩, .change 0 (.plain .unknown) .module 1002] ∧
    moduleLost.scanner.modules = [⟨0, 16, 15, .failed, 0, false, 0, .fresh, some ⟨.busCheck, 1002⟩⟩] ∧
    moduleLost.accepted 3 = none := by decide +kernel

def pulseOver : State :=
  after (.pulseEnd 1)
      { small with
        press := { small.press with
          outputs := [⟨true, 100, some 1, .closed, .idle, none, none, none, none⟩,
            ⟨true, 200, none, .closed, .driven, some 0, some 1002, none, none⟩, .undefined]
          slots := [.driving ⟨7, [1], 1, 0, 0, []⟩, .free none, .free none, .free none]
          permits := [some 0, none] } }

/-- A pulse without a readback ends its release at once: the operation's only step is over and the operation is DONE. -/
theorem test_pulse_end_completes :
    pulseOver.time = 1002 ∧ pulseOver.output 1 = ⟨true, 200, none, .closed, .idle, none, none, none, none⟩ ∧
    pulseOver.slot 0 = .free (some ⟨.done, none, none, 1002⟩) ∧ pulseOver.press.permits = [none, none] ∧
    pulseOver.lane .routine = [.pressEnd 0 7 .done none 1002] := by decide +kernel

/-- READ-TIME octet by octet gives the same state as the request's row (R148). -/
theorem test_octets_make_the_request :
    after (.octetReceived 0x48) (after (.octetReceived 0xA6) (after (.octetReceived 0x17) (after (.octetReceived 0x02)
      (after (.octetReceived 0x02) (after (.octetReceived 0xC5) small))))) = after (.readTime 0x17) small := by decide +kernel

/-! ### States that meet the statements' hypotheses -/

/-- A part of full size that operates with press-enable closed, inhibit off and the reset values otherwise. -/
def full : State :=
  { State.reset with
    power := .operating
    straps := ⟨false, false, 0, true, false⟩
    time := 1000
    scanner := ⟨.running, 9, 5, 2, [⟨0, 16, 15, .inService, 2, false, 0, .fresh, none⟩,
      ⟨1, 16, 31, .outOfService, 0, false, 0, .fresh, none⟩, ⟨31, 16, 47, .failed, 0, false, 0, .fresh, some ⟨.noAnswer, 7⟩⟩],
      some ⟨1000, [0, 31], []⟩, some 1004, some 994⟩
    press := { PressUnit.blank with inhibit := false } }

theorem full_shaped : Shaped full := by
  constructor <;>
    simp [full, State.reset, Filter.blank, blankFlashProfiles, ObjectTable.blank, PressUnit.blank, Journal.empty]

theorem shaped_setObject {s : State} (h : Shaped s) (n : Nat) (o : ObjectRecord) : Shaped (s.setObject n o) := by
  constructor <;>
    simp [h.contacts, h.profiles, h.flash, h.objects, h.outputs, h.slots, h.permits, h.modulePending, h.outputPending]

theorem shaped_setOutput {s : State} (h : Shaped s) (n : Nat) (o : OutputRecord) : Shaped (s.setOutput n o) := by
  constructor <;>
    simp [h.contacts, h.profiles, h.flash, h.objects, h.outputs, h.slots, h.permits, h.modulePending, h.outputPending]

theorem shaped_setSlot {s : State} (h : Shaped s) (n : Nat) (x : Slot) : Shaped (s.setSlot n x) := by
  constructor <;>
    simp [h.contacts, h.profiles, h.flash, h.objects, h.outputs, h.slots, h.permits, h.modulePending, h.outputPending]

theorem shaped_setPermit {s : State} (h : Shaped s) (n : Nat) (x : Option Nat) : Shaped (s.setPermit n x) := by
  constructor <;>
    simp [h.contacts, h.profiles, h.flash, h.objects, h.outputs, h.slots, h.permits, h.modulePending, h.outputPending]

theorem shaped_setQueue {s : State} (h : Shaped s) (q : List Nat) : Shaped (s.setQueue q) := by
  constructor <;>
    simp [h.contacts, h.profiles, h.flash, h.objects, h.outputs, h.slots, h.permits, h.modulePending, h.outputPending]

/-- The state with contact `c` at a level. -/
def withLevel (s : State) (c : Nat) (l : Option Level) : State :=
  s.setContacts (s.filter.contacts.set c { s.contact c with accepted := l })

theorem shaped_withLevel {s : State} (h : Shaped s) (c : Nat) (l : Option Level) : Shaped (withLevel s c l) := by
  constructor <;>
    simp [withLevel, h.contacts, h.profiles, h.flash, h.objects, h.outputs, h.slots, h.permits, h.modulePending,
      h.outputPending]

/-- A SAVE is running. -/
def saving (s : State) : State := s.setStore ⟨.busy, .erased, false, some ⟨.standard, .writing 990⟩⟩

theorem full_serves : full.serves ∧ full.busy = false ∧ (saving full).serves ∧ (saving full).busy = true := by
  simp only [State.serves]; decide +kernel

theorem small_serves : small.serves ∧ small.busy = false ∧ (saving small).serves ∧ (saving small).busy = true := by
  simp only [State.serves]; decide +kernel

/-- The TRACK of the small states. -/
def track : Definition := ⟨.track, [⟨0, .clear, false⟩], 2000, .normal⟩

/-- An image with an object in service, one out of service, one undefined, and an output. -/
def image : ImageContents :=
  { ImageContents.standard with
    map := [⟨0, 16, 15⟩]
    objects := ((List.replicate 512 none).set 0 (some ⟨track, true⟩)).set 510 (some ⟨track, false⟩)
    outputs := (List.replicate 64 none).set 0 (some ⟨250, some 7, .opened⟩) }

def loading (i : StoredImage) (ignore : Bool) : State :=
  { State.reset with straps := ⟨false, false, 0, false, ignore⟩, store := .start i }

theorem witness_LoadAppliesTheConfiguration :
    (loading (.intact image) false).power = .loading 0 ∧ (loading (.intact image) false).straps.storeIgnore = false ∧
    (loading (.intact image) false).store.image.contents = some image ∧
    (loading (.intact image) false).store.image.valid = true ∧ image.map ≠ [] ∧ ImageContents.standard.map = [] ∧
    image.objects[0]? = some (some ⟨track, true⟩) ∧ image.objects[510]? = some (some ⟨track, false⟩) ∧
    image.objects[511]? = some none ∧ image.outputs[0]? = some (some ⟨250, some 7, .opened⟩) ∧
    image.outputs[63]? = some none ∧ State.reset.power = .loading 0 ∧ State.reset.store.image.valid = false ∧
    (loading (.intact image) true).power = .loading 0 ∧ (loading (.intact image) true).straps.storeIgnore = true := by
  decide +kernel

theorem witness_ScanStarts :
    small.scanner.scan = none ∧ small.scanner.nextScan = some 1002 ∧ small.mayReach 1002 ∧
    (small.setTime 1002).scanner.nextScan = some 1002 ∧ (small.setTime 1002).mayReach 1002 ∧
    (small.setLink { small.link with sending := some ⟨0x82, 1, []⟩ }).mayReach 1002 := by
  simp only [State.mayReach]; decide +kernel

/-- The batch of the scan in which every input of module 0 reads OPEN. -/
def openedBatch : List BatchEntry :=
  batchEntries 1002 0 scanning.filter.contacts
    (scanning.filterContacts 1002
      (scanning.scanner.modules.map (completeModule 2 ⟨1002, [0], []⟩ [⟨0, .answer .size16 0#64⟩])))

theorem witness_ScanCompletes :
    full.scanner.scan = some ⟨1000, [0, 31], []⟩ ∧ scanning.scanner.scan = some ⟨1002, [0], []⟩ ∧
    openedBatch.map (·.contact) = [0, 2, 3] ∧
    (hitsOf scanning.table.index openedBatch).filter (fun h => h.object = 0) = [⟨0, 1002, false⟩] ∧
    (hitsOf scanning.table.index openedBatch).filter (fun h => h.object = 1) = [] ∧
    ((scanning.object 0).service = .inService ∧ (scanning.object 0).presented = some (.plain .clear)) ∧
    (∃ e ∈ openedBatch, e.contact = 3 ∧ e.accepted = some .opened) ∧
    (⟨true, 100, some 3, .closed, .releasing, none, none, some 1400, none⟩ : OutputRecord).windowEnd ≠ none ∧
    ((⟨2, 0, 1000, some 7⟩ : ContactProfile).flash = some 7 ∧ full.flash[7]? = some .standard) := by decide +kernel

/-- A part in ACQUIRING with a scan in progress. -/
def acquiring : State :=
  small.setScanner { small.scanner with part := .acquiring, scan := some ⟨999, [0], []⟩ }

theorem witness_RunningIsEnteredAtAcquisition :
    (acquiring.scanner.scan = some ⟨999, [0], []⟩ ∧ acquiring.scanner.part = .acquiring ∧
      ∃ t, exec (.scanCompletion []) acquiring = .next t) ∧
    (full.scanner.scan = some ⟨1000, [0, 31], []⟩ ∧ full.scanner.part ≠ .acquiring ∧
      ∃ t, exec (.scanCompletion []) full = .next t) ∧
    (0 < small.filter.contacts.length ∧ mappedAt small.scanner.modules 0 = some (0, 0) ∧
      ∃ m, small.scanner.modules[0]? = some m ∧ m.state = .inService) ∧
    (acquiring.acquired = false ∧ acquiring.scanner.acquisition < 64 ∧
      64 ≤ (acquiring.setScanner { acquiring.scanner with acquisition := 64 }).scanner.acquisition) ∧
    (small.scanner.part = .running ∧ ∃ t, exec .powerLoss small = .next t ∧ t.scanner.part ≠ .running) := by
  refine ⟨⟨rfl, rfl, _, rfl⟩, ⟨rfl, by decide +kernel, _, rfl⟩, ⟨by decide +kernel, by decide +kernel, _, rfl, rfl⟩,
    by decide +kernel, rfl, _, rfl, by decide +kernel⟩

/-- A module in some state, with its counters at the ends of their ranges. -/
def moduleIn (state : ModuleState) (counter recovery : Nat) (origin : RecoveryOrigin) : ModuleRecord :=
  ⟨0, 16, 15, state, counter, false, recovery, origin, none⟩

theorem witness_ModuleReadsAreApplied :
    TypeCode.size16.size = some 16 ∧ TypeCode.size64.size = some 64 ∧ 0 ∈ [0, 31] ∧ 0 ∉ ([] : List Nat) ∧
    classifyRead 16 (answerOf [⟨0, .answer .size16 1#64⟩] 0) = .good 1#64 ∧
    classifyRead 16 (answerOf [] 0) = .bad .noAnswer ∧ 0 ∉ ([1, 31] : List Nat) ∧
    (moduleIn .outOfService 0 0 .fresh).state = .outOfService ∧
    ([⟨0, .parityError⟩, ⟨0, .nothing⟩] : List ModuleRead).find? (fun x => x.slot = 0) = some ⟨0, .parityError⟩ ∧
    (∀ r ∈ ([⟨0, .parityError⟩] : List ModuleRead), r.slot ≠ 31) ∧
    (moduleIn .recovering 2 6 .fresh).recovery < 7 ∧ (moduleIn .recovering 2 7 .fresh).recovery = 7 ∧
    (moduleIn .inService 1 0 .fresh).faultCounter ≠ 0 ∧ (moduleIn .inService 0 0 .fresh).faultCounter = 0 ∧
    (moduleIn .recovering 2 7 .failed).origin = .failed ∧ (moduleIn .recovering 2 7 .fresh).origin = .fresh := by
  decide +kernel

theorem witness_MapGivesInputs :
    ∀ (i : Nat) (a b : ModuleRecord), full.scanner.modules[i]? = some a → full.scanner.modules[i + 1]? = some b →
      a.last < b.last := by
  intro i a b ha hb
  match i with
  | 0 => cases ha; cases hb; decide
  | 1 => cases ha; cases hb; decide
  | 2 => cases hb
  | n + 3 => cases ha

/-- A small part with nothing in service and every slot free. -/
def unused : State := small.setObjects []

theorem unused_object (n : Nat) : unused.object n = .undefined := rfl

theorem unused_slot (k : Nat) : (unused.slot k).isFree = true := by
  match k with
  | 0 => rfl
  | 1 => rfl
  | 2 => rfl
  | 3 => rfl
  | n + 4 => rfl

theorem witness_DefineModulesReplacesTheMap :
    ((saving small).serves ∧ (saving small).busy = true) ∧
    (small.serves ∧ small.busy = false ∧ (small.object 0).service = .inService) ∧
    (unused.serves ∧ unused.busy = false ∧ (∀ n, (unused.object n).service ≠ .inService) ∧
      (∀ k, (unused.slot k).isFree = true)) ∧
    SoundMap [] ∧ SoundMap [⟨0, 16, 63⟩, ⟨31, 64, 127⟩] ∧ ¬ SoundMap [⟨0, 16, 64⟩] := by
  refine ⟨⟨small_serves.2.2.1, rfl⟩, ⟨small_serves.1, rfl, rfl⟩,
    ⟨by simp only [State.serves]; decide +kernel, rfl, fun n => by rw [unused_object]; decide, unused_slot⟩, ?_, ?_, ?_⟩
  · exact ⟨by decide, by simp, by simp, by simp⟩
  · refine ⟨by decide, by decide, by simp, ?_⟩
    intro n a b ha hb
    match n with
    | 0 => cases ha; cases hb; decide
    | 1 => cases hb
    | n + 2 => cases ha
  · intro h
    exact absurd (h.2.2.1 _ rfl) (by decide)

theorem witness_SetScanTakesPeriodAndTolerance :
    small.serves ∧ small.busy = false ∧ (saving small).serves ∧ (saving small).busy = true := small_serves

theorem witness_ModulesChangeService :
    (full.serves ∧ full.busy = false ∧ Shaped full ∧ (saving full).serves ∧ (saving full).busy = true) ∧
    (∀ m ∈ full.scanner.modules, m.slot ≠ 30) ∧
    (∃ m, full.scanner.modules.find? (fun x => x.slot = 31) = some m ∧ m.state ≠ .outOfService) ∧
    (∃ m, full.scanner.modules.find? (fun x => x.slot = 1) = some m ∧ m.state = .outOfService) ∧
    (mappedAt full.scanner.modules 32 = some (2, 0) ∧ (full.scanner.modules[2]?.map (·.slot)) = some 31 ∧
      mappedAt full.scanner.modules 0 = some (0, 0) ∧ (full.scanner.modules[0]?.map (·.slot)) ≠ some 31 ∧
      mappedAt full.scanner.modules 2047 = none) :=
  ⟨⟨full_serves.1, full_serves.2.1, full_shaped, full_serves.2.2⟩, by decide +kernel,
    ⟨_, rfl, by decide⟩, ⟨_, rfl, by decide⟩, by decide +kernel⟩

theorem witness_ModuleLatchIsCleared :
    full.serves ∧ (∀ m ∈ full.scanner.modules, m.slot ≠ 30) ∧
    (∃ m, full.scanner.modules.find? (fun x => x.slot = 31) = some m ∧ m.state = .failed) ∧
    (∃ m, full.scanner.modules.find? (fun x => x.slot = 0) = some m ∧ m.state ≠ .failed) :=
  ⟨full_serves.1, by decide +kernel, ⟨_, rfl, by decide⟩, ⟨_, rfl, by decide⟩⟩

/-- A small part in which nothing is due. -/
def still : State := unused.setScanner { small.scanner with nextScan := none }

theorem still_nothing_due (c : Instr) : ¬ still.isDue c := by
  cases c <;> try exact id
  case startUpLoadComplete => exact fun ⟨_, h, _⟩ => nomatch h
  case objectTimerExpiry n =>
    rintro ⟨e, h, -⟩
    have none : (still.object n).timer = none := congrArg ObjectRecord.timer (unused_object n)
    cases none.symm.trans h
  case pulseEnd o =>
    rintro ⟨h, -⟩
    match o with
    | 0 => cases h
    | 1 => cases h
    | 2 => cases h
    | n + 3 => cases h
  case windowExpiry o =>
    rintro ⟨h, -⟩
    match o with
    | 0 => cases h
    | 1 => cases h
    | 2 => cases h
    | n + 3 => cases h
  case gapExpiry k =>
    rintro ⟨op, e, h, -⟩
    match k with
    | 0 => cases h
    | 1 => cases h
    | 2 => cases h
    | 3 => cases h
    | n + 4 => cases h
  case watchExpiry k =>
    rintro ⟨op, e, h, -⟩
    match k with
    | 0 => cases h
    | 1 => cases h
    | 2 => cases h
    | 3 => cases h
    | n + 4 => cases h
  case saveCompletion => exact fun ⟨_, _, h, _⟩ => nomatch h
  case scanStart => exact fun ⟨_, _, h, _⟩ => nomatch h

theorem witness_BoxTimeIsKept :
    (encodeRequest (.readTime 0) = some ⟨0x02, 0, []⟩ ∧ ∃ t, exec (.readTime 0) full = .next t) ∧
    ((∀ straps, (full.setPending [.scanStart]).pending.head? ≠ some (.powerOn straps)) ∧
      ∃ t, step (full.setPending [.scanStart]) = .next t) ∧
    ((State.reset.setTime 100).isDue .startUpLoadComplete ∧
      ∀ d, (State.reset.setTime 100).isDue d → (duePlace .startUpLoadComplete).1 < (duePlace d).1 ∨
        ((duePlace .startUpLoadComplete).1 = (duePlace d).1 ∧ (duePlace .startUpLoadComplete).2 ≤ (duePlace d).2)) ∧
    (still.pending = [] ∧ still.press.slots.length = 4 ∧ still.power ≠ .off ∧ (∀ c, ¬ still.isDue c) ∧
      still.scanner.scan = none ∧ still.store.save = none ∧ still.time < 2 ^ 48 - 1) ∧
    ∃ x, acquiring.scanner.scan = some x ∧ x.sampleTime + 1 ≤ acquiring.time := by
  refine ⟨⟨rfl, _, rfl⟩, ⟨fun _ h => (nomatch h), _, rfl⟩, ⟨⟨0, rfl, by decide⟩, fun d _ => ?_⟩,
    ⟨rfl, rfl, by decide +kernel, still_nothing_due, rfl, rfl, by decide +kernel⟩, _, rfl, by decide +kernel⟩
  rcases Nat.eq_zero_or_pos (duePlace d).1 with h | h
  · exact .inr ⟨h.symm, Nat.zero_le _⟩
  · exact .inl h

theorem witness_StateIsRead :
    full.serves ∧ (∃ x, mappedAt full.scanner.modules 0 = some x) ∧ (∀ m ∈ full.scanner.modules, m.last < 2047) ∧
    (mappedAt [⟨0, 16, 63, .inService, 2, false, 0, .fresh, none⟩] 16 = none ∧ 16 ≤ 63) ∧
    ((full.profile (full.contact 0).profile).flash = none ∧ (⟨2, 0, 1000, some 7⟩ : ContactProfile).flash ≠ none) ∧
    ((full.output 0).pulseEnd = none ∧ full.press.queue.length ≤ 4 ∧ full.press.permits[0]? = some none) :=
  ⟨full_serves.1, ⟨_, rfl⟩, by decide +kernel, by decide +kernel, by decide +kernel, by decide +kernel⟩

/-! #### Contacts -/

theorem witness_LevelViewIsDecided :
    (Contact.fresh 0).accepted = none ∧ (held .closed 0).accepted = some .closed ∧ (held .closed 0).chattering = false ∧
    { held .closed 0 with chattering := true }.chattering = true ∧ Level.closed = activeLevel false ∧
    Level.closed ≠ activeLevel true := by decide

theorem witness_LampViewIsDecided :
    (⟨2, 0, 1000, some 7⟩ : ContactProfile).flash ≠ none ∧ (Contact.fresh 0).accepted = none ∧
    (held .closed 0).accepted = some .closed ∧ (held .closed 0).flash.cls = .steady ∧
    { held .closed 0 with flash := ⟨.irregular, some 1, none, 0, none, none⟩ }.flash.cls ≠ .steady := by decide

theorem witness_SampleIsDebounced :
    (held .closed 0).accepted = some .closed ∧ (held .closed 0).accepted ≠ some .opened ∧
    (∀ old, ({ held .closed 0 with candidate := some ⟨.opened, 2, 7⟩ } : Contact).candidate = some old →
      old.level = .opened → (⟨.opened, 3, 7⟩ : Candidate) = ⟨.opened, old.count + 1, old.stamp⟩) ∧
    ¬ (∀ old, ({ held .closed 0 with candidate := some ⟨.opened, 2, 7⟩ } : Contact).candidate = some old →
      old.level ≠ .opened) ∧
    ContactProfile.standard.depth ≤ 3 ∧ (held .closed 0).accepted ≠ none ∧ (Contact.fresh 0).accepted = none := by
  refine ⟨rfl, by decide, ?_, fun h => h _ rfl rfl, by decide, by decide, rfl⟩
  intro old h _
  cases h
  rfl

/-- A contact that is lost, and a lamp whose opening is accepted, with the parts of R32 in their order. -/
theorem witness_FilterKeepsItsBounds_order :
    (∃ c1 c2 c3 : Contact,
      c1 = ⟨none, none, 0, none, false, 0, ⟨.steady, none, none, 0, none, none⟩⟩ ∧ leakCheck .standard 9 c1 = (c2, none) ∧
      takeSample .standard .opened 9 c2 = (c3, .nothing)) ∧
    (∃ (c2 c3 : Contact) (x : Stamp) (t6 : Option Stamp) (f : FlashRecord),
      leakCheck ⟨2, 0, 1000, some 7⟩ 9 { held .closed 1 with candidate := some ⟨.opened, 1, 7⟩ } = (c2, none) ∧
      takeSample ⟨2, 0, 1000, some 7⟩ .opened 9 c2 = (c3, .edge x) ∧ c3.accepted = some .opened ∧
      (silenceCheck .standard 9 c3.flash).2 = none ∧
      flashEdge .standard .opened x (silenceCheck .standard 9 c3.flash).1 = (f, t6)) :=
  ⟨⟨_, _, _, rfl, rfl, rfl⟩, ⟨_, _, _, _, _, rfl, rfl, rfl, rfl, rfl⟩⟩

theorem witness_FilterKeepsItsBounds :
    1 ≤ ContactProfile.standard.depth ∧
    ContactBounded .standard { held .closed 0 with candidate := some ⟨.opened, 2, 7⟩, chatterCount := 15, leakRef := some 1 } ∧
    (5 : Stamp) < 8 ∧ (⟨.opened, 2, 7⟩ : Candidate).stamp > 5 := by
  refine ⟨by decide, ⟨?_, by decide, by decide, by decide⟩, by decide, by decide⟩
  intro k h
  cases h
  decide

theorem witness_ChatterIsCountedAndLeaks :
    (⟨2, 0, 500, none⟩ : ContactProfile).limit = 0 ∧ (⟨2, 3, 500, none⟩ : ContactProfile).limit ≠ 0 ∧
    (⟨2, 3, 500, none⟩ : ContactProfile).flash = none ∧
    { held .closed 0 with chatterCount := 1, leakRef := some 5000, chattering := true }.leakRef = some 5000 ∧
    (5499 : Nat) < 5000 + 500 ∧ 5000 + 500 ≤ (5500 : Nat) ∧ 2 ≤ (⟨2, 3, 500, none⟩ : ContactProfile).limit ∧
    (leakCheck ⟨2, 3, 500, none⟩ 5500
      { held .closed 0 with chatterCount := 1, leakRef := some 5000, chattering := true }).1.chattering = false := by
  decide

theorem witness_SilenceIsFound :
    FlashRecord.cleared.leading = none ∧ FlashRecord.cleared.trailing = none ∧
    (40005 : Stamp) = max 39005 40005 ∧ 41405 - 40005 ≤ FlashProfile.standard.pMax ∧
    FlashProfile.standard.pMax < 41406 - 40005 := by decide

theorem witness_EdgesAreMeasured :
    Level.opened ≠ FlashProfile.standard.active ∧ Level.closed = FlashProfile.standard.active ∧
    FlashRecord.cleared.leading = none ∧
    (⟨.flashing, some 30005, some 30355, 1, none, none⟩ : FlashRecord).leading = some 30005 ∧
    (700 ≤ 30705 - 30005 ∧ 30705 - 30005 ≤ 1400 ∧ 30 ≤ 100 * (30355 - 30005) / (30705 - 30005) ∧
      100 * (30355 - 30005) / (30705 - 30005) ≤ 70) ∧
    ¬ 700 ≤ 30704 - 30005 ∧ FlashProfile.standard.confirm ≤ 4 ∧
    (FlashProfile.standard.confirm ≤ 1 ∧ (some 30005 : Option Stamp) ≠ none) := by decide

theorem witness_ProfilesTakeEffect :
    full.serves ∧ full.busy = false ∧ Shaped full ∧ (saving full).serves ∧ (saving full).busy = true ∧
    Shaped (saving full) ∧ (full.contact 0).profile = 0 ∧ (full.contact 2047).profile ≠ 15 :=
  ⟨full_serves.1, full_serves.2.1, full_shaped, full_serves.2.2.1, full_serves.2.2.2,
    ⟨full_shaped.contacts, full_shaped.profiles, full_shaped.flash, full_shaped.objects, full_shaped.outputs,
      full_shaped.slots, full_shaped.permits, full_shaped.modulePending, full_shaped.outputPending⟩,
    by decide +kernel, by decide +kernel⟩

theorem witness_DefineFlashTakesEffect :
    full.serves ∧ full.busy = false ∧ (saving full).serves ∧ (saving full).busy = true ∧
    full.flash[7]? = some ⟨min (max 700 100) 10000, min (max 1400 100) 10000, min (max 30 1) 99, min (max 70 1) 99,
      min (max 0 1) 4, .closed⟩ ∧
    (∃ old, full.flash[7]? = some old ∧ old ≠ ⟨100, 10000, 1, 99, 4, .opened⟩) ∧
    (full.profile (full.contact 0).profile).flash ≠ some 7 :=
  ⟨full_serves.1, full_serves.2.1, full_serves.2.2.1, full_serves.2.2.2, by decide +kernel,
    ⟨.standard, by decide +kernel, by decide⟩, by decide +kernel⟩

/-! #### Objects -/

theorem witness_DefinitionsAreWritten :
    (small.serves ∧ small.busy = false ∧ (saving small).serves ∧ (saving small).busy = true) ∧
    (small.object 0).service = .inService ∧ (small.object 511).service ≠ .inService ∧
    (small.object 1).service = .outOfService ∧ (small.object 0).service ≠ .outOfService ∧
    (2 = Kind.points.code ∧ 1 = Urgency.allUrgent.code ∧
      List.Forall₂ ReferenceField.names [⟨2047, 3, 0⟩, ⟨0, 4, 1⟩]
        [⟨2047, .normalDetect, false⟩, ⟨0, .reverseDetect, true⟩] ∧
      SoundReferences .points [⟨2047, .normalDetect, false⟩, ⟨0, .reverseDetect, true⟩]) ∧
    (¬ ∃ (k : Kind) (u : Urgency) (rs : List Reference), 6 = k.code ∧ 0 = u.code ∧
      List.Forall₂ ReferenceField.names [⟨0, 1, 0⟩] rs ∧ SoundReferences k rs) := by
  refine ⟨small_serves, rfl, by decide +kernel, rfl, by decide +kernel, ⟨rfl, rfl, ?_, ?_⟩, ?_⟩
  · exact .cons ⟨rfl, rfl, rfl, by decide⟩ (.cons ⟨rfl, rfl, rfl, by decide⟩ .nil)
  · exact ⟨by decide, by decide, by decide, by decide, by decide, by decide⟩
  · rintro ⟨k, u, rs, h, -⟩
    cases k <;> exact absurd h (by decide)

def latchedObject : ObjectRecord :=
  ⟨.inService, some track, some ⟨.clear, none, { Attrs.empty with latched := true }⟩, some 500, none,
    some ⟨.contradiction, 400⟩, none⟩

def unknownObject : ObjectRecord := ⟨.inService, some track, some (.plain .unknown), some 500, none, none, none⟩

def restingObject : ObjectRecord := ⟨.outOfService, some track, some (.plain .outOfService), none, none, none, none⟩

/-- A full part with objects in service, latched, UNKNOWN and out of service, and a slot that watches object 0. -/
def fitted : State :=
  (((full.setObject 0 latchedObject).setObject 1 unknownObject).setObject 511 restingObject).setSlot 3
    (.watching ⟨7, [0], 1, 0, 60000, [⟨0, .occupied, none, .either⟩]⟩ 2000)

theorem fitted_shaped : Shaped fitted :=
  shaped_setSlot (shaped_setObject (shaped_setObject (shaped_setObject full_shaped _ _) _ _) _ _) _ _

theorem fitted_serves : fitted.serves ∧ fitted.busy = false := by
  simp only [State.serves]; decide +kernel

/-- Points out of service. -/
def points : Definition := ⟨.points, [⟨0, .normalDetect, false⟩, ⟨1, .reverseDetect, false⟩], 5000, .normal⟩

/-- A full part with points out of service that stand at neither end. -/
def awaiting : State :=
  withLevel (withLevel (full.setObject 0 ⟨.outOfService, some points, some (.plain .outOfService), none, none, none, none⟩)
    0 (some .opened)) 1 (some .opened)

theorem witness_ObjectGoesIntoService :
    (fitted.serves ∧ fitted.busy = false ∧ (saving full).serves ∧ (saving full).busy = true) ∧ Shaped fitted ∧
    (fitted.object 0).service ≠ .outOfService ∧ (fitted.object 511).service = .outOfService ∧
    (fitted.object 511).definition = some track ∧ (fitted.object 511).presented = some (.plain .outOfService) ∧
    (fitted.object 511).timer = none ∧ (fitted.rule track (.plain .outOfService) false).timer ≠ .start ∧
    (Shaped awaiting ∧ awaiting.serves ∧ (awaiting.object 0).service = .outOfService ∧
      (awaiting.object 0).definition = some points ∧ (awaiting.object 0).timer = none ∧
      (awaiting.rule points (.plain .outOfService) false).timer = .start ∧ awaiting.time < awaiting.time + 5000) :=
  ⟨⟨fitted_serves.1, fitted_serves.2, full_serves.2.2⟩, fitted_shaped, by decide +kernel, by decide +kernel,
    by decide +kernel, by decide +kernel, by decide +kernel, by decide +kernel,
    shaped_withLevel (shaped_withLevel (shaped_setObject full_shaped _ _) _ _) _ _,
    by simp only [State.serves]; decide +kernel, by decide +kernel⟩

theorem witness_ObjectGoesOutOfService :
    (fitted.serves ∧ fitted.busy = false ∧ (saving full).serves ∧ (saving full).busy = true) ∧ Shaped fitted ∧
    (fitted.object 0).service = .inService ∧ (fitted.object 511).service ≠ .inService ∧
    fitted.slot 3 = .watching ⟨7, [0], 1, 0, 60000, [⟨0, .occupied, none, .either⟩]⟩ 2000 ∧
    3 ∉ fitted.press.queue ∧
    ((fitted.object 0).definition = some track ∧ ∃ old, (fitted.object 0).presented = some old) :=
  ⟨⟨fitted_serves.1, fitted_serves.2, full_serves.2.2⟩, fitted_shaped, by decide +kernel, by decide +kernel,
    by decide +kernel, by decide +kernel, by decide +kernel, latchedObject.presented.get rfl, by decide +kernel⟩

theorem witness_ObjectLatchIsCleared :
    fitted.serves ∧ Shaped fitted ∧ (fitted.object 2).service = .undefined ∧
    ((fitted.object 1).service ≠ .undefined ∧ (fitted.object 1).presented = some (.plain .unknown) ∧
      StateCode.unknown.isAlarm = true) ∧
    ((fitted.object 511).service ≠ .undefined ∧ (fitted.object 511).presented = some (.plain .outOfService) ∧
      StateCode.outOfService.isAlarm = false ∧ (fitted.object 511).latch = none) ∧
    ((fitted.object 0).presented = some ⟨.clear, none, { Attrs.empty with latched := true }⟩ ∧
      StateCode.clear.isAlarm = false ∧ (fitted.object 0).latch ≠ none ∧ (fitted.object 0).definition = some track) :=
  ⟨fitted_serves.1, fitted_shaped, by decide +kernel, by decide +kernel, by decide +kernel, by decide +kernel⟩

theorem witness_DefinitionsChecksAndSlotsAreRead :
    fitted.serves ∧ (fitted.object 2).service = .undefined ∧ (fitted.object 511).service ≠ .undefined ∧
    (fitted.object 511).definition = some track ∧ 16 < (List.replicate 17 (⟨0, 1, 0, 0⟩ : CheckItemField)).length ∧
    ((∀ code : StateCode, 0x12 ≠ code.code) ∧ 0x11 = StateCode.occupied.code) ∧
    List.Forall₂ CheckItemField.names [⟨511, 0x11, 0xFF, 2⟩, ⟨0, 0x30, 3, 1⟩]
      [⟨511, .occupied, none, .either⟩, ⟨0, .showing, some 3, .flashing⟩] ∧
    readCheckItems [⟨511, 0x11, 0xFF, 2⟩, ⟨0, 0x30, 3, 1⟩]
      = some [⟨511, .occupied, none, .either⟩, ⟨0, .showing, some 3, .flashing⟩] ∧
    readCheckItems (List.replicate 16 ⟨0, 0x10, 0xFF, 0⟩) ≠ none :=
  ⟨fitted_serves.1, by decide +kernel, by decide +kernel, by decide +kernel, by decide +kernel,
    ⟨fun code => by cases code <;> decide, rfl⟩,
    .cons ⟨by decide, rfl, by decide, by decide⟩ (.cons ⟨by decide, rfl, by decide, by decide⟩ .nil),
    by decide +kernel, by decide +kernel⟩

theorem witness_KindsAreResolved :
    (⟨2, .clear, false⟩ : Reference) ∈ (⟨.track, [⟨2, .clear, false⟩], 0, .normal⟩ : Definition).refs ∧
    small.accepted 2 = none ∧ LevelView.chatter ≠ .unknown ∧ (none : Option LevelView) ≠ some .unknown ∧
    some LevelView.chatter ≠ some .unknown ∧ some LevelView.active ≠ some .unknown ∧
    LevelView.inactive ≠ .active ∧ LevelView.chatter ≠ .active ∧ StateCode.moving ≠ .lost ∧
    ([] : List (Nat × LampView)).length ≠ 1 ∧ [(0, LampView.lit), (3, LampView.flashing)].length ≠ 1 := by
  decide +kernel

/-- The views of the small TRACK's roles. -/
theorem witness_KindsAreResolved_roles :
    (∀ r ∈ track.refs, small.accepted r.contact ≠ none) ∧ (track.refs.map (·.role)).Nodup ∧
    ∃ optional : Role → Option LevelView,
      (∀ r ∈ track.refs, optional r.role = some (levelView (small.contact r.contact) r.inverted)) ∧
      ∀ role, (∀ r ∈ track.refs, r.role ≠ role) → optional role = none := by
  refine ⟨by decide +kernel, by decide, fun role => if role = .clear then some .active else none, by decide +kernel, ?_⟩
  intro role h
  exact if_neg (fun e => h _ (List.mem_singleton.mpr rfl) e.symm)

theorem witness_ResolutionStampsAndLatches :
    (⟨.contradiction, none, { Attrs.empty with latched := true }⟩ : Presented) ≠ .plain .clear ∧
    (⟨.clear, none, { Attrs.empty with latched := false }⟩ : Presented) = .plain .clear := by decide

theorem witness_ChangeGetsItsLane :
    StateCode.unknown.isAlarm = true ∧ StateCode.clear.isAlarm = false ∧ StateCode.outOfService.isAlarm = false := by
  decide

/-- A small part with a TRACK under its clear delay and points that move. -/
def timing : State :=
  small.setObjects
    [⟨.inService, some track, some (.plain .occupied), some 500, some 1001, none, none⟩,
      ⟨.inService, some ⟨.points, [⟨0, .normalDetect, false⟩, ⟨1, .reverseDetect, false⟩], 5000, .normal⟩,
        some (.plain .moving), some 500, some 1000, none, none⟩]

theorem witness_ObjectTimerExpires :
    ((timing.object 1).timer = some 1000 ∧ timing.mayReach 1000 ∧ (timing.object 1).service = .inService ∧
      (timing.object 1).presented = some (.plain .moving) ∧ 1 < timing.table.objects.length) ∧
    ((timing.setTime 1001).object 0).timer = some 1001 ∧ (timing.setTime 1001).mayReach 1001 ∧
    ((timing.setTime 1001).object 0).definition = some track ∧ track.kind ≠ .points ∧
    (small.setObjects [⟨.inService, some track, some (.plain .occupied), none, some 1001, none, none⟩]).mayReach 1001 ∧
    ((small.object 1).timer ≠ some 1000 ∧ (timing.object 1).timer = some 1000 ∧ 1000 ≤ timing.time) := by
  simp only [State.mayReach]; decide +kernel

/-! #### Journal -/

def someRecord : Record := .refresh 0 (.plain .clear) (some 500)

/-- A full part with room for one more record in each lane and one more reply. -/
def nearlyFull : State :=
  ({ full with
      journal := { full.journal with
        urgent := List.replicate 31 someRecord
        routine := List.replicate 223 someRecord } }.setLink
    { full.link with sending := some ⟨0x82, 1, []⟩, replies := List.replicate 3 ⟨0x82, 2, []⟩ }).setPending [.readTime 1]

/-- A small part with its journal and the dirty mark of object 0 as given. -/
def journalling (j : Journal) (mark : Option Lane) : State :=
  (small.setJournal j).setDirty 0 mark

/-- A MODULE and an OUTPUT item held. -/
def heldJournal : Journal :=
  ⟨[], [], [none, some ⟨1, .failed, some .busCheck, 9⟩], [none, none, some ⟨2, .idle, .cleared, 9⟩]⟩

theorem witness_ItemsAreAdmitted :
    small.admits .urgent = true ∧ small.admits .routine = true ∧ (journalling heldJournal none).admits .urgent = false ∧
    (journalling small.journal (some .routine)).admits .routine = false ∧ unused.scanner.part = .running ∧
    acquiring.scanner.part ≠ .running ∧ (small.object 0).dirty = none ∧
    ((journalling heldJournal none).object 0).dirty = none ∧
    ((journalling small.journal (some .routine)).object 0).dirty = some .routine ∧
    ((journalling small.journal (some .urgent)).object 0).dirty = some .urgent := by decide +kernel

theorem witness_RefillTakesInOrder :
    ((true = true ↔ ∃ (n : Nat) (i : ModuleItem),
        (journalling heldJournal (some .urgent)).journal.modulePending[n]? = some (some i)) ∧
      (true = true ↔ ∃ (n : Nat) (i : OutputItem),
        (journalling heldJournal (some .urgent)).journal.outputPending[n]? = some (some i)) ∧
      (∀ l, (fun _ => false) l = true ↔ ∃ k tag rep,
        (journalling heldJournal (some .urgent)).slot k = .ended tag rep ∧ rep.outcome.lane = l) ∧
      (∀ l : Lane, decide (l = .urgent) = true ↔ (journalling heldJournal (some .urgent)).scanner.part = .running ∧
        ∃ n, ((journalling heldJournal (some .urgent)).object n).dirty = some l)) ∧
    ((false = true ↔ ∃ (n : Nat) (i : ModuleItem), small.journal.modulePending[n]? = some (some i)) ∧
      (false = true ↔ ∃ (n : Nat) (i : OutputItem), small.journal.outputPending[n]? = some (some i))) := by
  refine ⟨⟨⟨fun _ => ⟨1, _, rfl⟩, fun _ => rfl⟩, ⟨fun _ => ⟨2, _, rfl⟩, fun _ => rfl⟩, fun l => ⟨nofun, ?_⟩,
    fun l => ⟨?_, ?_⟩⟩, ⟨nofun, ?_⟩, nofun, ?_⟩
  · rintro ⟨k, tag, rep, h, -⟩
    match k with
    | 0 => cases h
    | 1 => cases h
    | 2 => cases h
    | 3 => cases h
    | n + 4 => cases h
  · intro h
    cases of_decide_eq_true h
    exact ⟨rfl, 0, rfl⟩
  · rintro ⟨-, n, h⟩
    match n with
    | 0 => cases h; rfl
    | 1 => cases h
    | n + 2 => cases h
  · rintro ⟨n, i, h⟩
    match n with
    | 0 => cases h
    | 1 => cases h
    | n + 2 => cases h
  · rintro ⟨n, i, h⟩
    match n with
    | 0 => cases h
    | 1 => cases h
    | 2 => cases h
    | n + 3 => cases h

/-- A small part whose slot 2 has ended. -/
def ended : State := small.setSlot 2 (.ended 7 ⟨.aborted, none, none, 990⟩)

theorem witness_RefillTakesInOrder_ended :
    (∀ l : Lane, decide (l = .routine) = true ↔ ∃ k tag rep, ended.slot k = .ended tag rep ∧ rep.outcome.lane = l) ∧
    (ended.hasPlace .routine = true ∧ ended.firstPending .routine = some (.pressEnd 2) ∧
      ended.hasPlace .urgent = true ∧ ended.firstPending .urgent = none) ∧
    (journalling heldJournal (some .urgent)).firstPending .urgent = some (.module 1) ∧
    (journalling small.journal (some .urgent)).firstPending .urgent = some (.object 0) ∧
    (nearlyFull.hasPlace .urgent = true ∧ (nearlyFull.append .urgent someRecord).hasPlace .urgent = false) := by
  refine ⟨fun l => ⟨fun h => ?_, ?_⟩, by decide +kernel⟩
  · cases of_decide_eq_true h
    exact ⟨2, _, _, rfl, rfl⟩
  · rintro ⟨k, tag, rep, h, rfl⟩
    match k with
    | 0 => cases h
    | 1 => cases h
    | 2 => cases h; rfl
    | 3 => cases h
    | n + 4 => cases h

theorem witness_SyncMarksEveryObject :
    small.serves ∧ small.scanner.part = .running ∧ acquiring.serves ∧ acquiring.scanner.part ≠ .running ∧
    (small.object 0).service = .inService ∧ (small.object 0).presented = some (.plain .clear) ∧
    StateCode.clear.isAlarm = false ∧ (fitted.object 1).presented = some (.plain .unknown) ∧
    (small.object 1).service ≠ .inService := by
  simp only [State.serves]; decide +kernel

theorem witness_FetchTakesTheOldest :
    small.serves ∧ full.serves ∧
    ((nearlyFull.lane .urgent).take (min 3 8) ≠ [] ∧ (nearlyFull.lane .routine).take (min 9 8 - 0) ≠ [] ∧
      (small.lane .routine).take (min 0 8) = []) :=
  ⟨small_serves.1, full_serves.1, by decide +kernel⟩

theorem witness_HoldAndModeAreSet :
    small.serves ∧ (small.setLink { small.link with mode := .echo }).takesFrames = true ∧
    (small.setLink { small.link with mode := .echo }).repliesFull = false := by
  simp only [State.serves]; decide +kernel

/-! #### Press outputs and press operations -/

/-- A small part with output 0 as given. -/
def withOutput (r : OutputRecord) : State := small.setOutput 0 r

theorem witness_DefineOutputWritesTheRecord :
    small.serves ∧ small.busy = false ∧ (saving small).serves ∧ (saving small).busy = true ∧
    (small.output 2).defined = false ∧ (small.output 0).state = .idle ∧
    (withOutput ⟨true, 100, none, .closed, .driven, some 0, some 1100, none, none⟩).serves ∧
    ((withOutput ⟨true, 100, none, .closed, .driven, some 0, some 1100, none, none⟩).output 0).defined = true ∧
    ((withOutput ⟨true, 100, none, .closed, .driven, some 0, some 1100, none, none⟩).output 0).state ≠ .idle := by
  simp only [State.serves]; decide +kernel

theorem witness_PressIsChecked :
    (acquiring.serves ∧ acquiring.scanner.part ≠ .running) ∧
    ((small.setInhibit true).serves ∧ (small.setInhibit true).press.inhibit = true) ∧
    (small.serves ∧ small.scanner.part = .running ∧ small.press.inhibit = false ∧ [0, 2].Nodup ∧ ¬ [0, 0].Nodup ∧
      readCheckItems [⟨0, 0x10, 0xFF, 0⟩] ≠ none ∧ readCheckItems [⟨0, 0x12, 0xFF, 0⟩] = none ∧
      (∀ i ∈ [(⟨0, 0x10, 0xFF, 0⟩ : CheckItemField)], (small.object i.object).service = .inService) ∧
      (small.object 1).service ≠ .inService ∧
      [0, 2] = [0] ++ 2 :: [] ∧ (∀ x ∈ [0], (small.output x).defined = true) ∧ (small.output 2).defined = false) ∧
    (∀ x ∈ [1, 0], ((withOutput ⟨true, 100, none, .closed, .faulted, none, none, none, some .stuck⟩).output x).defined
      = true) ∧
    ((withOutput ⟨true, 100, none, .closed, .faulted, none, none, none, some .stuck⟩).output 0).state = .faulted ∧
    ((withOutput ⟨true, 100, none, .closed, .claimed, some 0, none, none, none⟩).output 0).state ≠ .idle ∧
    ((withOutput ⟨true, 100, some 2, .closed, .idle, none, none, none, none⟩).output 0).readback = some 2 ∧
    (withOutput ⟨true, 100, some 2, .closed, .idle, none, none, none, none⟩).accepted 2 = none ∧
    (∀ x ∈ [0, 1], (small.output x).state = .idle ∧ ∀ c ∈ (small.output x).readback, small.accepted c ≠ none) ∧
    (∀ x ∈ List.replicate 4 (Slot.ended 7 ⟨.aborted, none, none, 9⟩), x.isFree = false) := by
  simp only [State.serves]; decide +kernel

/-- An IDLE output with a readback, and one without. -/
def idleOutput (readback : Option Nat) : OutputRecord := ⟨true, 100, readback, .closed, .idle, none, none, none, none⟩

/-- An operation of one step on output 63. -/
def lastStep : Operation := ⟨7, [63], 1, 0, 60000, []⟩

/-- An operation at the first of two steps, the first on output 63. -/
def firstStep : Operation := ⟨7, [63, 0], 1, 300, 60000, []⟩

/-- A full part with two outputs, and slots 0 to 2 taken by operations of other outputs. -/
def pressing : State :=
  withLevel
    (((((full.setOutput 0 (idleOutput none)).setOutput 63 (idleOutput (some 2047))).setSlot 0
      (.ended 1 ⟨.done, none, none, 9⟩)).setSlot 1 (.ended 2 ⟨.done, none, none, 9⟩)).setSlot 2
      (.ended 3 ⟨.done, none, none, 9⟩)) 2047 (some .opened)

theorem pressing_shaped : Shaped pressing :=
  shaped_withLevel (shaped_setSlot (shaped_setSlot (shaped_setSlot (shaped_setOutput (shaped_setOutput full_shaped _ _) _ _)
    _ _) _ _) _ _) _ _

theorem pressing_serves : pressing.serves := by
  simp only [State.serves]; decide +kernel

theorem witness_PressIsAccepted :
    (pressing.serves ∧ Shaped pressing ∧ pressing.scanner.part = .running ∧ pressing.press.inhibit = false ∧
      (∀ o ∈ [63, 0], o ≤ 63) ∧ [63, 0].Nodup ∧ readCheckItems [] = some []) ∧
    (∀ o ∈ [63, 0], (pressing.output o).defined = true ∧ (pressing.output o).state = .idle ∧
      ∀ c, (pressing.output o).readback = some c → pressing.accepted c ≠ none) ∧
    ((pressing.slot 3).isFree = true ∧ ∀ j, j < 3 → (pressing.slot j).isFree = false) ∧
    (pressing.press.queue = [] ∧ pressing.press.permits[0]? = some none) ∧
    ((pressing.setPermit 0 (some 0)).press.permits[1]? = some none ∧
      ∀ q : Nat, q < 1 → (pressing.setPermit 0 (some 0)).press.permits[q]? ≠ some none) ∧
    (none ∉ ((pressing.setPermit 0 (some 0)).setPermit 1 (some 1)).press.permits) := by
  refine ⟨⟨pressing_serves, pressing_shaped, by decide +kernel⟩, ?_, ⟨by decide +kernel, by decide +kernel⟩,
    by decide +kernel, ⟨by decide +kernel, by decide +kernel⟩, by decide +kernel⟩
  intro o ho
  simp only [List.mem_cons, List.not_mem_nil, or_false] at ho
  rcases ho with rfl | rfl
  · refine ⟨by decide +kernel, by decide +kernel, fun c h => ?_⟩
    have e : (pressing.output 63).readback = some 2047 := by decide +kernel
    cases e.symm.trans h
    decide +kernel
  · refine ⟨by decide +kernel, by decide +kernel, fun c h => ?_⟩
    have e : (pressing.output 0).readback = none := by decide +kernel
    cases e.symm.trans h

/-- A full part in which slot 3 drives output 63, whose readback contact 2047 reads as given. -/
def driving (readback : Option Nat) (l : Option Level) (op : Operation) : State :=
  withLevel (((full.setOutput 63 ⟨true, 100, readback, .closed, .driven, some 3, some 1001, none, none⟩).setSlot 3
    (.driving op)).setPermit 1 (some 3)) 2047 l

theorem driving_shaped (readback : Option Nat) (l : Option Level) (op : Operation) : Shaped (driving readback l op) :=
  shaped_withLevel (shaped_setPermit (shaped_setSlot (shaped_setOutput full_shaped _ _) _ _) _ _) _ _

/-- Four ways a pulse can end. -/
def drivings : List State :=
  [driving (some 2047) (some .closed) lastStep, driving (some 2047) (some .opened) lastStep,
    driving (some 2047) none lastStep, driving none none firstStep]

theorem output_beyond {s : State} (h : Shaped s) {o : Nat} (ho : 64 ≤ o) : s.output o = .undefined := by
  have : s.press.outputs[o]? = none := List.getElem?_eq_none (by rw [h.outputs]; exact ho)
  simp [State.output, this]

/-- Slot 3 drives nothing but output 63. -/
theorem driving_once : ∀ x, x ≠ 63 → ((driving none none firstStep).output x).owner = some 3 →
    ((driving none none firstStep).output x).state ≠ .driven := by
  intro x
  by_cases h : x < 64
  · exact (show ∀ x < 64, x ≠ 63 → ((driving none none firstStep).output x).owner = some 3 →
      ((driving none none firstStep).output x).state ≠ .driven by decide +kernel) x h
  · rw [output_beyond (driving_shaped _ _ _) (Nat.le_of_not_lt h)]
    exact fun _ _ => by decide

theorem witness_PulseEnds :
    (∀ s ∈ drivings, Shaped s) ∧
    (∀ s ∈ drivings, (s.output 63).state = .driven ∧ (s.output 63).owner = some 3 ∧
      (s.output 63).pulseEnd = some 1001 ∧ (s.output 63).windowEnd = none ∧ s.mayReach 1001 ∧
      (s.slot 3).operation ≠ none ∧ 3 ∉ s.press.queue ∧ s.press.queue = []) ∧
    (driving none none firstStep).slot 3 = .driving firstStep ∧ firstStep.step < firstStep.steps.length ∧
    firstStep.gap ≠ 0 ∧ (driving (some 2047) (some .closed) lastStep).accepted 2047 = some .closed ∧
    (driving (some 2047) (some .opened) lastStep).accepted 2047 = some .opened ∧
    (driving (some 2047) none lastStep).accepted 2047 = none := by
  refine ⟨?_, ?_, by decide +kernel, by decide, by decide, by decide +kernel, by decide +kernel, by decide +kernel⟩
  · intro s h
    simp only [drivings, List.mem_cons, List.not_mem_nil, or_false] at h
    rcases h with rfl | rfl | rfl | rfl <;> exact driving_shaped _ _ _
  · simp only [State.mayReach]; decide +kernel

/-- Slot 3 drives, and slot 1 waits for output 0. -/
def queued : State :=
  (((driving none none firstStep).setOutput 0 { idleOutput none with state := .claimed, owner := some 1 }).setSlot 1
    (.waiting ⟨8, [0], 1, 0, 0, []⟩)).setQueue [1]

theorem queued_shaped : Shaped queued :=
  shaped_setQueue (shaped_setSlot (shaped_setOutput (driving_shaped _ _ _) _ _) _ _) _

theorem witness_PermitsAndReleasesGoOn :
    ((driving none none firstStep).press.permits.findIdx? (· = some 3) = some 1 ∧
      (driving none none firstStep).press.queue = []) ∧
    (Shaped queued ∧ queued.press.permits.findIdx? (· = some 3) = some 1 ∧ queued.press.queue = [1] ∧
      queued.slot 1 = .waiting ⟨8, [0], 1, 0, 0, []⟩ ∧ (⟨8, [0], 1, 0, 0, []⟩ : Operation).current = some 0) ∧
    (3 < queued.press.slots.length ∧ firstStep.current = some 63 ∧ queued.press.queue ≠ []) ∧
    (queued.slot 3).operation = some firstStep ∧ firstStep.step < firstStep.steps.length ∧ firstStep.gap ≠ 0 ∧
    lastStep.steps.length ≤ lastStep.step ∧ lastStep.expects = [] ∧
    (fitted.slot 3).operation = some ⟨7, [0], 1, 0, 60000, [⟨0, .occupied, none, .either⟩]⟩ ∧
    ((fitted.unclaim 3).object 0).service = .inService ∧ ((fitted.unclaim 3).object 511).service ≠ .inService :=
  ⟨by decide +kernel, ⟨queued_shaped, by decide +kernel⟩, by decide +kernel, by decide +kernel, by decide +kernel,
    by decide +kernel, by decide +kernel, by decide +kernel, by decide +kernel, by decide +kernel, by decide +kernel⟩

theorem queued_others_wait : OthersWait queued 63 := by
  intro k hk op h
  cases List.mem_singleton.mp hk
  have e : (queued.slot 1).operation = some ⟨8, [0], 1, 0, 0, []⟩ := by decide +kernel
  cases e.symm.trans h
  decide

theorem witness_PulseEnds_queued :
    Shaped queued ∧ (queued.output 63).state = .driven ∧ (queued.output 63).owner = some 3 ∧ OthersWait queued 63 ∧
    3 ∉ queued.press.queue ∧ queued.press.permits.findIdx? (· = some 3) = some 1 ∧ queued.press.queue = 1 :: [] ∧
    queued.slot 1 = .waiting ⟨8, [0], 1, 0, 0, []⟩ ∧ (queued.output 0).owner = some 1 ∧
    ∀ x < 64, x ≠ 63 → (queued.output x).owner = some 3 → (queued.output x).state ≠ .driven :=
  ⟨queued_shaped, by decide +kernel, by decide +kernel, queued_others_wait, by decide +kernel, by decide +kernel,
    by decide +kernel, by decide +kernel, by decide +kernel, by decide +kernel⟩

/-- A slot that watches for what object 0 presents. -/
def matched : State :=
  fitted.setSlot 3 (.watching ⟨7, [0], 1, 0, 60000, [⟨0, .clear, none, .either⟩]⟩ 61000)

/-- The slots of PRESS-STATUS, and the changes that a watch looks at. -/
theorem witness_slots_and_watches :
    (queued.slot 1 = .waiting ⟨8, [0], 1, 0, 0, []⟩ ∧ queued.press.queue = [] ++ 1 :: []) ∧
    (queued.slot 3 = .driving firstStep ∧ firstStep.current = some 63 ∧ firstStep.steps.length ≤ 4) ∧
    (matched.slot 3 = .watching ⟨7, [0], 1, 0, 60000, [⟨0, .clear, none, .either⟩]⟩ 61000 ∧
      matched.itemMatches ⟨0, .clear, none, .either⟩ = true ∧ fitted.itemMatches ⟨0, .occupied, none, .either⟩ = false) ∧
    (∀ i, i < 8 → ((0x01 : Octet).getLsbD i = true ↔
      ∃ x, [(⟨0, .clear, none, .either⟩ : CheckItem)][i]? = some x ∧ matched.itemMatches x = true)) ∧
    ([(⟨1, .plain .clear, .contact, 9, .routine⟩ : Change)].filter (fun c => c.object = 0) = [] ∧
      [(⟨0, .plain .outOfService, .service, 9, .routine⟩ : Change)].filter (fun c => c.object = 0)
        = [⟨0, .plain .outOfService, .service, 9, .routine⟩] ∧
      (61000 - 60000 ≤ 1001 ∧ (⟨0, .plain .clear, .contact, 1001, .routine⟩ : Change).stamp = 1001)) := by
  refine ⟨by decide +kernel, by decide +kernel, by decide +kernel, ?_, by decide +kernel⟩
  intro i hi
  match i with
  | 0 => exact ⟨fun _ => ⟨_, rfl, by decide +kernel⟩, fun _ => rfl⟩
  | n + 1 =>
    have h : (0x01 : Octet).getLsbD (n + 1) = false :=
      (show ∀ i < 8, i ≠ 0 → (0x01 : Octet).getLsbD i = false by decide) _ hi nofun
    exact ⟨fun h' => (nomatch h.symm.trans h'), fun ⟨_, h, _⟩ => nomatch h⟩

/-- A full part in which output 63 releases, for slot 3 or for no slot. -/
def releasing (owner : Option Nat) (l : Option Level) : State :=
  withLevel ((full.setOutput 63 ⟨true, 100, some 2047, .closed, .releasing, owner, none, some 1001, none⟩).setSlot 3
    (.releasing lastStep)) 2047 l

theorem releasing_shaped (owner : Option Nat) (l : Option Level) : Shaped (releasing owner l) :=
  shaped_withLevel (shaped_setSlot (shaped_setOutput full_shaped _ _) _ _) _ _

theorem witness_WindowExpires :
    (∀ owner l, Shaped (releasing owner l)) ∧
    (∀ s ∈ [releasing (some 3) (some .closed), releasing none none],
      (s.output 63).state = .releasing ∧ (s.output 63).windowEnd = some 1001 ∧
      (s.output 63).pulseEnd = none ∧ s.mayReach 1001 ∧ s.press.queue = [] ∧ (s.output 63).readback = some 2047 ∧
      (s.slot 3).operation = some lastStep) ∧
    (releasing (some 3) (some .closed)).accepted 2047 = some .closed ∧ (releasing none none).accepted 2047 = none ∧
    ((releasing (some 3) (some .closed)).output 63).owner = some 3 ∧ ((releasing none none).output 63).owner = none := by
  refine ⟨releasing_shaped, ?_, by decide +kernel, by decide +kernel, by decide +kernel, by decide +kernel⟩
  simp only [State.mayReach]; decide +kernel

/-- A full part in which slot 3 waits for the end of its gap. -/
def gapping : State :=
  (full.setOutput 0 { idleOutput none with state := .claimed, owner := some 3 }).setSlot 3 (.gap firstStep 1001)

theorem gapping_shaped : Shaped gapping := shaped_setSlot (shaped_setOutput full_shaped _ _) _ _

/-- The same with both permits held. -/
def gappingLate : State := (gapping.setPermit 0 (some 0)).setPermit 1 (some 1)

theorem witness_GapsAndWatchesExpire :
    (Shaped gapping ∧ gapping.slot 3 = .gap firstStep 1001 ∧ gapping.mayReach 1001 ∧
      ({ firstStep with step := firstStep.step + 1 } : Operation).current = some 0 ∧ gapping.press.queue = [] ∧
      gapping.press.permits.findIdx? (· = none) = some 0) ∧
    (Shaped gappingLate ∧ none ∉ gappingLate.press.permits ∧ gappingLate.slot 3 = .gap firstStep 1001 ∧
      gappingLate.mayReach 1001) ∧
    (Shaped fitted ∧
      fitted.slot 3 = .watching ⟨7, [0], 1, 0, 60000, [⟨0, .occupied, none, .either⟩]⟩ 2000 ∧
      (fitted.setTime 2000).mayReach 2000 ∧
      ((fitted.output 0).owner ≠ some 3 ∧ (fitted.output 63).owner ≠ some 3)) ∧
    ((fitted.setSlot 3 (.watching { lastStep with watch := 0 } 1000)).slot 3 = .watching { lastStep with watch := 0 } 1000 ∧
      1000 ≤ fitted.time ∧ (full.slot 3).isWatching = false) := by
  refine ⟨⟨gapping_shaped, ?_⟩, ⟨shaped_setPermit (shaped_setPermit gapping_shaped _ _) _ _, ?_⟩, ⟨fitted_shaped, ?_⟩, ?_⟩ <;>
    simp only [State.mayReach] <;> decide +kernel

theorem witness_PressIsAborted :
    full.serves ∧ (full.slot 3).operation = none ∧
    (∀ s ∈ [driving (some 2047) (some .closed) firstStep, driving (some 2047) none firstStep,
        driving none none firstStep, driving (some 2047) (some .opened) firstStep],
      s.takesFrames = true ∧ s.repliesFull = false ∧ s.link.mode ≠ .echo ∧ (s.slot 3).operation = some firstStep ∧
      s.press.queue = [] ∧ (s.output 63).owner = some 3 ∧ (s.output 63).state = .driven ∧
      (s.output 0).owner ≠ some 3) ∧
    (Shaped (driving none none firstStep) ∧ Shaped gapping ∧ Shaped (releasing (some 3) none)) ∧
    ((gapping.output 0).owner = some 3 ∧ (gapping.output 0).state = .claimed ∧
      (gapping.slot 3).operation = some firstStep) ∧
    (((releasing (some 3) none).output 63).owner = some 3 ∧ ((releasing (some 3) none).output 63).state = .releasing) :=
  ⟨full_serves.1, by decide +kernel, by decide +kernel, ⟨driving_shaped _ _ _, gapping_shaped, releasing_shaped _ _⟩,
    by decide +kernel, by decide +kernel⟩

/-- The end of the operation in slot 3, whose only DRIVEN output is 63: without a readback, and with one that holds the
release back. -/
theorem witness_PressIsAborted_ends :
    ((driving none none firstStep).slot 3).operation = some firstStep ∧
    (63 < (driving none none firstStep).press.outputs.length ∧
      ((driving none none firstStep).output 63).owner = some 3 ∧
      ((driving none none firstStep).output 63).state = .driven ∧
      ((driving none none firstStep).output 63).readback = none) ∧
    (∀ x, ((driving none none firstStep).output x).owner = some 3 →
      ((driving none none firstStep).output x).state = .driven → x = 63) ∧
    ((driving (some 2047) (some .closed) firstStep).output 63).readback = some 2047 ∧
    (driving (some 2047) (some .closed) firstStep).accepted 2047
      = some ((driving (some 2047) (some .closed) firstStep).output 63).sense :=
  ⟨by decide +kernel, by decide +kernel,
    fun x owner driven => Decidable.by_contra (fun h => driving_once x h owner driven), by decide +kernel,
    by decide +kernel⟩

theorem witness_PressIsInhibited :
    queued.serves ∧ Shaped queued ∧ QueueWaits queued ∧ (queued.slot 3).isPressing = true ∧
    (queued.slot 3).operation = some firstStep ∧ queued.straps.pressEnable = true ∧
    (fitted.slot 3 = .watching ⟨7, [0], 1, 0, 60000, [⟨0, .occupied, none, .either⟩]⟩ 2000) ∧
    ({ full with straps := .allOpen }.serves ∧ { full with straps := .allOpen }.straps.pressEnable = false) := by
  refine ⟨by simp only [State.serves]; decide +kernel, queued_shaped, ?_, by decide +kernel, by decide +kernel,
    by decide +kernel, by decide +kernel, by simp only [State.serves]; decide +kernel⟩
  intro k hk
  cases List.mem_singleton.mp hk
  exact ⟨_, rfl⟩

/-- A full part in which output 63 is FAULTED. -/
def faulted (readback : Option Nat) (l : Option Level) : State :=
  withLevel (full.setOutput 63 ⟨true, 100, readback, .closed, .faulted, none, none, none, some .stuck⟩) 2047 l

theorem witness_OutputIsCleared :
    (∀ readback l, Shaped (faulted readback l)) ∧
    (∀ s ∈ [faulted none none, faulted (some 2047) none, faulted (some 2047) (some .closed),
        faulted (some 2047) (some .opened)],
      s.takesFrames = true ∧ s.repliesFull = false ∧ s.link.mode ≠ .echo ∧ (s.output 63).defined = true ∧
      (s.output 63).state = .faulted ∧ (s.output 0).defined = false) ∧
    (faulted (some 2047) none).accepted 2047 = none ∧
    (faulted (some 2047) (some .closed)).accepted 2047 = some .closed ∧
    (faulted (some 2047) (some .opened)).accepted 2047 = some .opened ∧
    (pressing.serves ∧ (pressing.output 63).defined = true ∧ (pressing.output 63).state ≠ .faulted) :=
  ⟨fun _ _ => shaped_withLevel (shaped_setOutput full_shaped _ _) _ _, by decide +kernel, by decide +kernel,
    by decide +kernel, by decide +kernel, pressing_serves, by decide +kernel, by decide +kernel⟩

/-! #### Link and store -/

/-- A small part that sends a frame. -/
def sendingFrame (replies : List Frame) (mode : LinkMode) (hold restarting : Bool) (urgent routine : List Record) : State :=
  (small.setJournal { small.journal with urgent := urgent, routine := routine }).setLink
    ⟨.hunting, replies, some ⟨0x82, 1, []⟩, mode, hold, false, restarting⟩

theorem witness_FrameSentIsFollowed :
    (sendingFrame [⟨0x82, 2, []⟩] .polled false false [] []).link.sending = some ⟨0x82, 1, []⟩ ∧
    (sendingFrame [⟨0x82, 2, []⟩] .polled false false [] []).link.replies = ⟨0x82, 2, []⟩ :: [] ∧
    ((sendingFrame [] .polled false true [] []).link.replies = [] ∧
      (sendingFrame [] .polled false true [] []).link.restarting = true) ∧
    ((sendingFrame [] .stream true false [someRecord] [someRecord]).lane .urgent ≠ [] ∧
      (sendingFrame [] .stream true false [someRecord] [someRecord]).link.mode = .stream) ∧
    ((sendingFrame [] .stream false false [] [someRecord]).lane .routine ≠ [] ∧
      (sendingFrame [] .stream false false [] [someRecord]).lane .urgent = [] ∧
      (sendingFrame [] .stream false false [] [someRecord]).link.hold = false) ∧
    ((sendingFrame [] .stream true false [] [someRecord]).lane .urgent = [] ∧
      (sendingFrame [] .stream true false [] [someRecord]).link.hold = true) ∧
    (sendingFrame [] .polled false false [someRecord] []).link.mode ≠ .stream := by decide +kernel

/-- A small part whose receiver stands as given. -/
def receiving (r : Receiver) : State := small.setLink { small.link with receiver := r }

theorem witness_OctetsAreCollected :
    small.power = .operating ∧ small.link.receiver = .hunting ∧
    ((receiving (.collecting 989 none [] none)).link.receiver = .collecting 989 none [] none ∧ 989 + 10 < small.time) ∧
    ((receiving (.collecting 990 none [] none)).link.receiver = .collecting 990 none [] none ∧ small.time ≤ 990 + 10) ∧
    ((0x01 : Octet).toNat < 2 ∧ 200 < (0xC9 : Octet).toNat ∧ 2 ≤ (0x02 : Octet).toNat ∧ (0xC8 : Octet).toNat ≤ 200) ∧
    ([0x02].length < (0x02 : Octet).toNat ∧ (0x02 : Octet).toNat ≤ [(0x02 : Octet), 0x17].length) ∧
    (crc ((0x02 : Octet) :: [0x02, 0x17]) = (0xA6 : Octet) ++ (0x48 : Octet) ∧
      crc ((0x02 : Octet) :: [0x02, 0x17]) ≠ (0xA6 : Octet) ++ (0x49 : Octet)) ∧
    State.reset.power ≠ .operating ∧
    (receiveOctet small.time .hunting 0xC5).2 = none ∧
    (receiveOctet 1000 (.collecting 990 (some 2) [2, 0x17] (some 0xA6)) 0x48).2 = some ⟨0x02, 0x17, []⟩ := by decide +kernel

theorem witness_FramesAreJudged :
    (∀ s, s = small.setLink { small.link with sending := some ⟨0x82, 1, []⟩, replies := List.replicate 4 ⟨0x82, 2, []⟩ } →
      s.takesFrames = true ∧ s.repliesFull = true) ∧
    encodeRequest (.readTime 1) = some ⟨0x02, 1, []⟩ ∧
    (small.serves ∧ (0x70 : Octet) ∉ requestKinds ∧ (0x7F : Octet) ∉ requestKinds ∧ (0x7F : Octet) ≠ 0x70#8) ∧
    (∀ s, s = small.setLink { small.link with mode := .echo } →
      s.takesFrames = true ∧ s.repliesFull = false ∧ s.link.mode = .echo) ∧
    ((receiving (.collecting 990 none [] none)).time ≤ 990 + 10 ∧
      989 + 10 < (receiving (.collecting 989 none [] none)).time) ∧
    ((receiving (.collecting 990 (some 2) [2, 0x17] (some 0xA6))).link.receiver
        = .collecting 990 (some 2) [2, 0x17] (some 0xA6) ∧ (some 2 : Option Octet) ≠ none) ∧
    (decodeRequest ⟨0x02, 1, [0]⟩ = .badLength ∧ decodeRequest ⟨0x12, 1, [0, 2]⟩ = .badCode true ∧
      decodeRequest ⟨0x34, 1, [2]⟩ = .badCode false ∧ decodeRequest ⟨0x7F, 1, []⟩ = .notARequest) ∧
    (State.reset.takesFrames = false ∧ (sendingFrame [] .polled false true [] []).takesFrames = false) := by
  refine ⟨?_, rfl, ?_, ?_, by decide +kernel, by decide +kernel, by decide +kernel, by decide +kernel⟩
  · rintro s rfl
    exact ⟨rfl, rfl⟩
  · simp only [State.serves]; decide +kernel
  · rintro s rfl
    exact ⟨rfl, rfl, rfl⟩

/-- A small part that compares what it has written. -/
def comparing (i : StoredImage) : State := small.setStore ⟨.busy, i, false, some ⟨image, .readBack 990⟩⟩

theorem witness_DefinitionsAreSaved :
    (small.serves ∧ small.busy = false ∧ (saving small).serves ∧ (saving small).busy = true) ∧
    (0 < small.table.objects.length ∧ (small.object 0).service = .inService ∧ (small.object 1).service = .outOfService ∧
      2 < small.press.outputs.length) ∧
    (saving small).store.save = some ⟨.standard, .writing 990⟩ ∧
    ((comparing (.intact image)).store.save = some ⟨image, .readBack 990⟩ ∧
      (comparing (.intact image)).store.image = .intact image) ∧
    ((comparing .erased).store.image ≠ .intact image ∧
      (comparing .erased).store.image ≠ .other image (imageCheck image)) :=
  ⟨small_serves, by decide +kernel, rfl, ⟨rfl, rfl⟩, nofun, nofun⟩

theorem witness_FramesAreReceived :
    (⟨0x02, 0x17, []⟩ : Frame).body.length ≤ 198 ∧ (⟨0x31, 0x17, List.replicate 198 0xC5⟩ : Frame).body.length ≤ 198 ∧
    (List.replicate 8 LineLevel.stop).length = 8 := by
  decide +kernel

theorem witness_RequestsAreReadBack :
    WellFormed (.assignProfile 0 65535 65535 255) = true ∧
    encodeRequest (.assignProfile 0 65535 65535 255) = some ⟨0x19, 0, [0xFF, 0xFF, 0xFF, 0xFF, 0xFF]⟩ := by decide +kernel

/-! #### What every step keeps -/

theorem witness_QueuesStayBounded :
    LanesBounded nearlyFull ∧ RepliesBounded nearlyFull ∧ ∃ t, step nearlyFull = .next t := by
  refine ⟨?_, ?_, _, rfl⟩
  · intro l
    cases l <;> exact (by decide +kernel)
  · exact (by simp only [RepliesBounded]; decide +kernel)

theorem witness_ObjectsStaySound :
    TimersHold timing ∧ ObjectsWhole timing ∧ ∃ t, step (timing.setPending [.objectTimerExpiry 0]) = .next t := by
  refine ⟨?_, ?_, _, rfl⟩
  · intro n
    match n with
    | 0 => exact fun _ => ⟨rfl, _, _, rfl, rfl, rfl⟩
    | 1 => exact fun _ => ⟨rfl, _, _, rfl, rfl, rfl⟩
    | n + 2 => exact fun h => absurd rfl h
  · intro n
    match n with
    | 0 => exact ⟨fun _ => ⟨nofun, nofun⟩, fun p h => by cases h; rfl⟩
    | 1 => exact ⟨fun _ => ⟨nofun, nofun⟩, fun p h => by cases h; rfl⟩
    | n + 2 => exact ⟨fun h => absurd rfl h, fun p h => nomatch h⟩

/-- A small part with a TRACK whose contact is UNKNOWN. -/
def darkened : State :=
  { small with
    table := ⟨[⟨.inService, some ⟨.track, [⟨2, .clear, false⟩], 0, .normal⟩, some (.plain .unknown), some 500, none, none,
      none⟩], [⟨2, 0, .level, false⟩]⟩ }

theorem witness_UnknownStaysPresented :
    ObjectsWhole darkened ∧ IndexWhole darkened ∧ UnknownPresented darkened ∧ darkened.accepted 2 = none ∧
    ∃ t, step (darkened.setPending [.objectServiceOut 1 0]) = .next t := by
  refine ⟨?_, ?_, ?_, rfl, _, rfl⟩
  · intro n
    match n with
    | 0 => exact ⟨fun _ => ⟨nofun, nofun⟩, fun p h => by cases h; rfl⟩
    | n + 1 => exact ⟨fun h => absurd rfl h, fun p h => nomatch h⟩
  · intro n d hs hd
    match n with
    | 0 => cases hd; exact (by decide)
    | n + 1 => cases hs
  · intro n d p hs hd hp
    match n with
    | 0 => cases hd; cases hp; exact (by decide +kernel)
    | n + 1 => cases hs

/-- A small part in which slot 0 drives output 1. -/
def driven : State :=
  { small with
    press := { small.press with
      outputs := [⟨true, 100, some 1, .closed, .idle, none, none, none, none⟩,
        ⟨true, 200, none, .closed, .driven, some 0, some 1002, none, none⟩, .undefined]
      slots := [.driving ⟨7, [1], 1, 0, 0, []⟩, .free none, .free none, .free none]
      permits := [some 0, none] } }

theorem witness_PressUnitStaysSound : PressSound driven ∧ ∃ t, step (driven.setPending [.pulseEnd 1]) = .next t := by
  have slot (k : Nat) : (k = 0 ∧ driven.slot k = .driving ⟨7, [1], 1, 0, 0, []⟩) ∨ (k ≠ 0 ∧ driven.slot k = .free none) := by
    match k with
    | 0 => exact .inl ⟨rfl, rfl⟩
    | 1 => exact .inr ⟨nofun, rfl⟩
    | 2 => exact .inr ⟨nofun, rfl⟩
    | 3 => exact .inr ⟨nofun, rfl⟩
    | n + 4 => exact .inr ⟨nofun, rfl⟩
  have output (o : Nat) : (o = 1 ∧ driven.output o = ⟨true, 200, none, .closed, .driven, some 0, some 1002, none, none⟩) ∨
      (o ≠ 1 ∧ (driven.output o = .undefined ∨ driven.output o = ⟨true, 100, some 1, .closed, .idle, none, none, none, none⟩)) := by
    match o with
    | 0 => exact .inr ⟨nofun, .inr rfl⟩
    | 1 => exact .inl ⟨rfl, rfl⟩
    | 2 => exact .inr ⟨nofun, .inl rfl⟩
    | n + 3 => exact .inr ⟨nofun, .inl rfl⟩
  refine ⟨⟨rfl, rfl, fun h => absurd rfl h, ?_, ?_, ?_, ?_, ?_, ?_, ?_, ?_, ?_, ?_, ?_, ?_, .nil, nofun⟩, _, rfl⟩
  · intro k op h
    rcases slot k with ⟨-, e⟩ | ⟨-, e⟩ <;> rw [e] at h <;> cases h
    decide +kernel
  · intro k op e h
    rcases slot k with ⟨-, e⟩ | ⟨-, e⟩ <;> rw [e] at h <;> cases h
  · intro o k
    have owner : (driven.output o).owner = if o = 1 then some 0 else none := by
      rcases output o with ⟨rfl, x⟩ | ⟨ho, x | x⟩ <;> rw [x]
      · rfl
      · rw [if_neg ho]; rfl
      · rw [if_neg ho]
    rw [owner]
    rcases slot k with ⟨rfl, e⟩ | ⟨hk, e⟩ <;> rw [e]
    · simp [Slot.operation, Slot.isWatching]
    · simp [Slot.operation, hk.symm]
  · intro o k op ho h
    rcases slot k with ⟨rfl, e⟩ | ⟨hk, e⟩ <;> rw [e] at h <;> cases h
    rcases output o with ⟨rfl, x⟩ | ⟨-, x | x⟩ <;> rw [x] at ho <;> cases ho
    rfl
  · intro o h
    rcases output o with ⟨rfl, x⟩ | ⟨-, x | x⟩ <;> rw [x] at h ⊢
    · cases h
    · decide
    · decide
  · intro o h
    rcases output o with ⟨rfl, x⟩ | ⟨-, x | x⟩ <;> rw [x] at h ⊢
    · cases h
    · rfl
  · intro o
    rcases output o with ⟨rfl, x⟩ | ⟨-, x | x⟩ <;> rw [x] <;> decide
  · intro o
    rcases output o with ⟨rfl, x⟩ | ⟨-, x | x⟩ <;> rw [x] <;> decide
  · intro o
    rcases output o with ⟨rfl, x⟩ | ⟨-, x | x⟩ <;> rw [x] <;> decide
  · intro k
    rcases slot k with ⟨rfl, e⟩ | ⟨hk, e⟩ <;> rw [e] <;> simp [driven, *]
  · intro p q k hp hq
    match p, q with
    | 0, 0 => rfl
    | 0, 1 => cases hq
    | 1, _ => cases hp
    | 0, n + 2 => cases hq
    | n + 2, _ => cases hp
  · intro k
    rcases slot k with ⟨rfl, e⟩ | ⟨hk, e⟩ <;> rw [e] <;> simp [driven, small]

/-- A small part with the press-enable strap open. -/
def lockedOut : State := (small.setInhibit true).setStraps .allOpen

theorem witness_LinesStayOpen :
    LinesHeldOpen lockedOut ∧ lockedOut.straps.pressEnable = false ∧
    ∃ t, step (lockedOut.setPending [.pressInhibitOff 1]) = .next t := by
  refine ⟨fun _ => ⟨rfl, fun k => ?_, fun o => ?_⟩, rfl, _, rfl⟩
  · match k with
    | 0 => rfl
    | 1 => rfl
    | 2 => rfl
    | 3 => rfl
    | n + 4 => rfl
  · match o with
    | 0 => exact ⟨rfl, rfl⟩
    | 1 => exact ⟨rfl, rfl⟩
    | 2 => exact ⟨rfl, rfl⟩
    | n + 3 => exact ⟨rfl, rfl⟩

theorem witness_NoObjectRecordsBeforeRunning :
    acquiring.scanner.part ≠ .running ∧
    ∃ t, step (acquiring.setPending [.moduleServiceOut 1 0]) = .next t ∧ t.scanner.part ≠ .running :=
  ⟨by decide +kernel, _, rfl, by decide +kernel⟩

end Sys2Proof.Tests
end

section
/-! PROOFS. The two views of a contact (R33, R34): one equation per line of each table, which kinds read which view, and
the obligations on the views. -/

namespace Sys2Proof.Machine

/-! ### The active level and the kinds -/

@[simp] theorem activeLevel_plain : activeLevel false = .closed := rfl

@[simp] theorem activeLevel_inverted : activeLevel true = .opened := rfl

/-- There are two levels, so of two different ones exactly one is the active level, whichever that is. -/
theorem Level.eq_iff_ne_of_ne {l l' : Level} (h : l' ≠ l) (active : Level) : l' = active ↔ l ≠ active := by
  match l, l' with
  | .opened, .closed => cases active <;> simp
  | .closed, .opened => cases active <;> simp
  | .opened, .opened => exact absurd rfl h
  | .closed, .closed => exact absurd rfl h

theorem Kind.view_eq_level_iff (k : Kind) : k.view = .level ↔ (k = .track ∨ k = .points ∨ k = .relay) := by
  cases k <;> simp [Kind.view]

theorem Kind.view_eq_lamp_iff (k : Kind) : k.view = .lamp ↔ (k = .signal ∨ k = .indication) := by
  cases k <;> simp [Kind.view]

/-- A flash profile takes its contacts out of the chatter check (R21). -/
theorem ContactProfile.checksChatter_of_flash {p : ContactProfile} (h : p.flash ≠ none) : p.checksChatter = false := by
  have unprofiled : p.flash.isNone = false := by simpa using Option.isSome_iff_ne_none.mpr h
  simp [ContactProfile.checksChatter, unprofiled]

/-! ### The level view, line by line -/

section LevelView

variable {c : Contact} {l l' : Level} {inverted : Bool}

theorem levelView_of_unknown (h : c.accepted = none) : levelView c inverted = .unknown := by
  simp [levelView, h]

theorem levelView_of_chattering (h : c.accepted = some l) (hc : c.chattering = true) :
    levelView c inverted = .chatter := by
  simp [levelView, h, hc]

theorem levelView_of_quiet (h : c.accepted = some l) (hc : c.chattering = false) :
    levelView c inverted = if l = activeLevel inverted then .active else .inactive := by
  simp [levelView, h, hc]

/-- The flash record takes no part in the level view (R48). -/
theorem levelView_setFlash (c : Contact) (f : FlashRecord) (inverted : Bool) :
    levelView { c with flash := f } inverted = levelView c inverted := rfl

/-- While the contact is QUIET every change of level shows. -/
theorem levelView_setAccepted_ne_of_quiet (h : c.accepted = some l) (hl : l' ≠ l) (hc : c.chattering = false) :
    levelView { c with accepted := some l' } inverted ≠ levelView c inverted := by
  have before : levelView c inverted = _ := levelView_of_quiet h hc
  have after : levelView { c with accepted := some l' } inverted = _ := levelView_of_quiet rfl hc
  rw [before, after]
  by_cases active : l = activeLevel inverted <;> simp [Level.eq_iff_ne_of_ne hl, active]

/-- While the contact is CHATTERING no change of level shows (R30). -/
theorem levelView_setAccepted_of_chattering (h : c.accepted = some l) (hc : c.chattering = true) :
    levelView { c with accepted := some l' } inverted = levelView c inverted :=
  calc levelView { c with accepted := some l' } inverted
    _ = .chatter := levelView_of_chattering rfl hc
    _ = levelView c inverted := (levelView_of_chattering h hc).symm

end LevelView

/-! ### The lamp view, line by line -/

section LampView

variable {c : Contact} {l l' : Level} {inverted : Bool}

theorem lampView_of_unknown (h : c.accepted = none) : lampView c inverted = .unknown := by
  simp [lampView, h]

theorem lampView_of_flashing (h : c.accepted = some l) (hf : c.flash.cls = .flashing) :
    lampView c inverted = .flashing := by
  simp [lampView, h, hf]

theorem lampView_of_irregular (h : c.accepted = some l) (hf : c.flash.cls = .irregular) :
    lampView c inverted = .irregular := by
  simp [lampView, h, hf]

theorem lampView_of_steady_chattering (h : c.accepted = some l) (hf : c.flash.cls = .steady)
    (hc : c.chattering = true) : lampView c inverted = .irregular := by
  simp [lampView, h, hf, hc]

theorem lampView_of_steady_quiet (h : c.accepted = some l) (hf : c.flash.cls = .steady) (hc : c.chattering = false) :
    lampView c inverted = if l = activeLevel inverted then .lit else .dark := by
  simp [lampView, h, hf, hc]

/-- While the class is not STEADY the lamp view follows the class alone, and no change of level shows. -/
theorem lampView_setAccepted_of_not_steady (h : c.accepted = some l) (hf : c.flash.cls ≠ .steady) :
    lampView { c with accepted := some l' } inverted = lampView c inverted := by
  cases cls : c.flash.cls with
  | steady => exact absurd cls hf
  | flashing =>
    calc lampView { c with accepted := some l' } inverted
      _ = .flashing := lampView_of_flashing rfl cls
      _ = lampView c inverted := (lampView_of_flashing h cls).symm
  | irregular =>
    calc lampView { c with accepted := some l' } inverted
      _ = .irregular := lampView_of_irregular rfl cls
      _ = lampView c inverted := (lampView_of_irregular h cls).symm

end LampView

/-! ### The obligations on the views -/

/-- Settles O16: the table of R33 line by line, then what an edge and a flash record make of the view. -/
theorem levelViewIsDecided : Obligations.LevelViewIsDecided := by
  refine ⟨Kind.view_eq_level_iff, ⟨activeLevel_plain, activeLevel_inverted⟩, fun c inverted =>
    ⟨levelView_of_unknown, fun l h => ⟨levelView_of_chattering h, fun hc active => ?active, fun hc inactive => ?inactive⟩,
      fun f => levelView_setFlash c f inverted,
      fun _ _ h hl hc => levelView_setAccepted_ne_of_quiet h hl hc,
      fun _ _ h hc => levelView_setAccepted_of_chattering h hc⟩⟩
  case active => rw [levelView_of_quiet h hc, if_pos active]
  case inactive => rw [levelView_of_quiet h hc, if_neg inactive]

/-- Settles O17: the table of R34 line by line, and a class other than STEADY hides the level. -/
theorem lampViewIsDecided : Obligations.LampViewIsDecided := by
  refine ⟨Kind.view_eq_lamp_iff, ⟨activeLevel_plain, activeLevel_inverted⟩,
    fun _ => ContactProfile.checksChatter_of_flash, fun c inverted =>
    ⟨lampView_of_unknown, fun l h => ⟨lampView_of_flashing h, lampView_of_irregular h, lampView_of_steady_chattering h,
      fun hf hc active => ?lit, fun hf hc inactive => ?dark⟩,
      fun _ _ h hf => lampView_setAccepted_of_not_steady h hf⟩⟩
  case lit => rw [lampView_of_steady_quiet h hf hc, if_pos active]
  case dark => rw [lampView_of_steady_quiet h hf hc, if_neg inactive]

end Sys2Proof.Machine
end

section
/-! PROOFS. The lane of a change (R93): which states are alarm states, one equation per line of the rule, and the
obligation on the lane. -/

namespace Sys2Proof.Machine

theorem StateCode.isAlarm_iff (c : StateCode) : c.isAlarm = true ↔
    (c = .lost ∨ c = .contradiction ∨ c = .dark ∨ c = .fault ∨ c = .irregular ∨ c = .unknown) := by
  cases c <;> simp [StateCode.isAlarm]

section ChangeLane

variable {old new : StateCode}

@[simp] theorem changeLane_allUrgent (old new : StateCode) : changeLane .allUrgent old new = .urgent := rfl

theorem changeLane_normal_of_old_alarm (h : old.isAlarm = true) : changeLane .normal old new = .urgent := by
  simp [changeLane, h]

theorem changeLane_normal_of_new_alarm (h : new.isAlarm = true) : changeLane .normal old new = .urgent := by
  simp [changeLane, h]

theorem changeLane_normal_of_no_alarm (hold : old.isAlarm = false) (hnew : new.isAlarm = false) :
    changeLane .normal old new = .routine := by
  simp [changeLane, hold, hnew]

end ChangeLane

/-- Settles O33: the alarm states as R93 takes them, then the rule's lines; of a NORMAL object's change either alarm state
alone makes it URGENT. -/
theorem changeGetsItsLane : Obligations.ChangeGetsItsLane :=
  ⟨StateCode.isAlarm_iff, fun old new =>
    ⟨changeLane_allUrgent old new,
      fun alarm => alarm.elim changeLane_normal_of_old_alarm changeLane_normal_of_new_alarm,
      changeLane_normal_of_no_alarm⟩⟩

end Sys2Proof.Machine
end

section
/-! PROOFS. The end of a quiet request: what its owner left, with its reply on the way. -/

namespace Sys2Proof.Machine

/-- A request is quiet where it leaves every object timer as it was and lets no slot enter WATCHING: nothing follows it
at once (R79, R134), so the part is what the owner left, with the owner's reply. -/
theorem State.request_quiet {s t : State} {i : Instr} {f : Frame} {serve : State → State × Reply} {r : Reply}
    (h : s.serves) (frame : encodeRequest i = some f) (kind : f.kind ≠ kindDiscarded) (served : serve s = (t, r))
    (timers : ∀ n, (t.object n).timer = (s.object n).timer)
    (slots : ∀ k, (t.slot k).isWatching = true → (s.slot k).isWatching = true) :
    s.request i serve = t.afterReply (replyKind f.kind) f.tag r.result r.fields := by
  rw [State.request_serves h frame kind, State.serveFrame_quiet (by simpa [served] using timers)
    (by simpa [served] using slots), served]
  rfl

end Sys2Proof.Machine
end

section
/-! PROOFS. DEFINE-OUTPUT (R119): how its fields are read and its pulse length taken, one equation per check of the
request, and the obligation. -/

namespace Sys2Proof.Machine

/-! ### The fields -/

theorem outputs_le_iff (o : Nat) : Config.outputs ≤ o ↔ 63 < o := Iff.rfl

theorem flagOf_of_le {n : Nat} (h : n ≤ 1) : flagOf n = some (decide (n = 1)) := by
  obtain rfl | rfl := Nat.le_one_iff_eq_zero_or_eq_one.mp h <;> rfl

theorem flagOf_of_gt {n : Nat} (h : 1 < n) : flagOf n = none := by
  obtain ⟨k, rfl⟩ := Nat.exists_eq_add_of_le' h
  rfl

theorem senseOf_of_le {n : Nat} (h : n ≤ 1) : senseOf n = some (if n = 0 then .closed else .opened) := by
  obtain rfl | rfl := Nat.le_one_iff_eq_zero_or_eq_one.mp h <;> rfl

theorem senseOf_of_gt {n : Nat} (h : 1 < n) : senseOf n = none := by
  obtain ⟨k, rfl⟩ := Nat.exists_eq_add_of_le' h
  rfl

/-- A readback field is in range when it names a contact, or none by 0xFFFF (R119, R163). -/
theorem belowOrAbsent_optionalTwo_iff (n : Nat) :
    belowOrAbsent Config.contacts (optionalTwo n) = true ↔ (n ≤ 2047 ∨ n = 0xFFFF) := by
  by_cases h : n = 0xFFFF
  · simp [optionalTwo, belowOrAbsent, h]
  · simp [optionalTwo, belowOrAbsent, h, Config.contacts, Nat.lt_succ_iff]

theorem outputFields_of_sound {defined readback sense : Nat} (hd : defined ≤ 1)
    (hr : readback ≤ 2047 ∨ readback = 0xFFFF) (hs : sense ≤ 1) :
    outputFields defined readback sense
      = some (decide (defined = 1), optionalTwo readback, if sense = 0 then .closed else .opened) := by
  simp [outputFields, flagOf_of_le hd, senseOf_of_le hs, (belowOrAbsent_optionalTwo_iff readback).mpr hr]

theorem outputFields_of_unsound {defined readback sense : Nat}
    (h : 1 < defined ∨ (2047 < readback ∧ readback ≠ 0xFFFF) ∨ 1 < sense) :
    outputFields defined readback sense = none := by
  obtain hd | ⟨above, present⟩ | hs := h
  · simp [outputFields, flagOf_of_gt hd]
  · have out : belowOrAbsent Config.contacts (optionalTwo readback) = false := by
      rw [← Bool.not_eq_true, belowOrAbsent_optionalTwo_iff]
      omega
    unfold outputFields
    split <;> simp [out]
  · simp [outputFields, senseOf_of_gt hs]

theorem clamp_eq_min_max {lo hi : Nat} (h : lo ≤ hi) (n : Nat) : clamp lo hi n = min (max n lo) hi := by
  unfold clamp
  split
  · omega
  · split <;> omega

theorem clampPulse_eq (pulse : Nat) : clampPulse pulse = min (max pulse 100) 2000 / 10 * 10 := by
  rw [clampPulse, roundDown, clamp_eq_min_max (by decide)]

/-! ### The record -/

theorem OutputRecord.redefined_of_defined (r : OutputRecord) (pulse : Nat) (readback : Option Nat) (sense : Level) :
    r.redefined pulse (true, readback, sense) = ⟨true, pulse, readback, sense, .idle, none, none, none, none⟩ := rfl

theorem OutputRecord.redefined_of_undefined (r : OutputRecord) (pulse : Nat) (readback : Option Nat) (sense : Level) :
    r.redefined pulse (false, readback, sense) = { r with defined := false } := rfl

/-! ### The checks, in their order -/

section Checks

variable {s : State} {tag : Octet} {o defined pulse readback sense : Nat}

theorem serveDefineOutput_of_busy (busy : s.busy = true) :
    serveDefineOutput o defined pulse readback sense s = (s, refusal .busy) := by
  simp [serveDefineOutput, busy]

theorem serveDefineOutput_of_unsound (free : s.busy = false)
    (h : 63 < o ∨ 1 < defined ∨ (2047 < readback ∧ readback ≠ 0xFFFF) ∨ 1 < sense) :
    serveDefineOutput o defined pulse readback sense s = (s, refusal .badParam) := by
  by_cases out : 63 < o
  · simp [serveDefineOutput, free, outputs_le_iff, out]
  · have fields : outputFields defined readback sense = none := outputFields_of_unsound (h.resolve_left out)
    simp [serveDefineOutput, free, outputs_le_iff, out, fields]

theorem serveDefineOutput_of_sound {fields : Bool × Option Nat × Level} (free : s.busy = false) (ho : o ≤ 63)
    (read : outputFields defined readback sense = some fields) :
    serveDefineOutput o defined pulse readback sense s
      = if (s.output o).defined ∧ (s.output o).state ≠ .idle then (s, refusal .badState)
        else (s.setOutput o ((s.output o).redefined (clampPulse pulse) fields), okWith (oct2 (clampPulse pulse))) := by
  simp [serveDefineOutput, free, outputs_le_iff, Nat.not_lt_of_le ho, read]

theorem exec_defineOutput_eq_request (tag : Octet) (o defined pulse readback sense : Nat) (s : State) :
    exec (.defineOutput tag o defined pulse readback sense) s
      = .next (s.request (.defineOutput tag o defined pulse readback sense)
          (serveDefineOutput o defined pulse readback sense)) := by
  rfl

/-- What DEFINE-OUTPUT leaves is followed by its reply alone, since it touches no object and no slot. -/
theorem exec_defineOutput {t : State} {reply : Reply} (h : s.serves)
    (served : serveDefineOutput o defined pulse readback sense s = (t, reply))
    (objects : ∀ n, t.object n = s.object n) (slots : ∀ k, t.slot k = s.slot k) :
    exec (.defineOutput tag o defined pulse readback sense) s
      = .next (t.afterReply 0xB0#8 tag reply.result reply.fields) := by
  have quiet := State.request_quiet h (i := .defineOutput tag o defined pulse readback sense) rfl
    (by decide : kindDefineOutput ≠ kindDiscarded) served (fun n => by rw [objects n]) (fun k => slots k ▸ id)
  rw [exec_defineOutput_eq_request, quiet]
  rfl

theorem exec_defineOutput_refused {r : ResultCode} (h : s.serves)
    (served : serveDefineOutput o defined pulse readback sense s = (s, refusal r)) :
    exec (.defineOutput tag o defined pulse readback sense) s = .next (s.afterReply 0xB0#8 tag r []) :=
  exec_defineOutput h served (fun _ => rfl) (fun _ => rfl)

end Checks

/-- Settles O40: the three checks in their order, and past them the record of R119 for either value of the defined
field. -/
theorem defineOutputWritesTheRecord : Obligations.DefineOutputWritesTheRecord := by
  intro s tag o defined pulse readback sense serves
  refine ⟨fun busy => exec_defineOutput_refused serves (serveDefineOutput_of_busy busy),
    fun free bad => exec_defineOutput_refused serves (serveDefineOutput_of_unsound free bad),
    fun free ho hd hr hs => ?_⟩
  have served := serveDefineOutput_of_sound (pulse := pulse) free ho (outputFields_of_sound hd hr hs)
  refine ⟨fun isDefined working => ?refused, fun idle taken htaken => ?written⟩
  case refused => exact exec_defineOutput_refused serves (by rw [served, if_pos ⟨isDefined, working⟩])
  case written =>
    have accepted : ¬ ((s.output o).defined = true ∧ (s.output o).state ≠ .idle) := by
      rintro ⟨isDefined, working⟩
      exact idle.elim (fun undefined => by simp [undefined] at isDefined) working
    rw [if_neg accepted] at served
    rw [exec_defineOutput serves served (fun _ => rfl) (fun _ => rfl), clampPulse_eq, ← htaken]
    by_cases yes : defined = 1
    · rw [if_pos yes, decide_eq_true yes, OutputRecord.redefined_of_defined]
      rfl
    · rw [if_neg yes, decide_eq_false yes, OutputRecord.redefined_of_undefined]
      rfl

end Sys2Proof.Machine
end

section
/-! PROOFS. An OUTPUT item handed over: what the hand-over leaves of the part, and that the journal has the item, in the
URGENT lane or held (R101, R104). -/

namespace Sys2Proof.Machine

theorem State.handOutput_sameRelays (s : State) (i : OutputItem) : SameRelays s (s.handOutput i) := by
  unfold State.handOutput
  split
  · exact SameRelays.of_journal s _
  · exact (SameRelays.of_journal s _).trans (State.refill_sameRelays _ .urgent)

/-- The journal and the press unit leave the link alone. -/
theorem link_keptByEnd (l : Link) : KeptByEnd (fun s => s.link = l) where
  outputs _ _ := id
  slot _ _ _ _ := id
  permit _ _ _ := id
  queue _ _ := id
  dirty _ _ _ := id
  modulePending _ _ _ := id
  outputPending _ _ _ := id
  append _ _ _ _ _ := id

theorem State.handOutput_link (s : State) (i : OutputItem) : (s.handOutput i).link = s.link :=
  (link_keptByEnd s.link).handOutput rfl

/-! ### The held OUTPUT items under the journal's updates -/

@[simp] theorem Journal.outputPending_setLane (j : Journal) (l : Lane) (rs : List Record) :
    (j.setLane l rs).outputPending = j.outputPending := by
  cases l <;> rfl

@[simp] theorem State.outputPending_setModulePending (s : State) (slot : Nat) (x : Option ModuleItem) :
    (s.setModulePending slot x).journal.outputPending = s.journal.outputPending := rfl

@[simp] theorem State.outputPending_setOutputPending (s : State) (o : Nat) (x : Option OutputItem) :
    (s.setOutputPending o x).journal.outputPending = s.journal.outputPending.set o x := rfl

/-- A refill takes a held OUTPUT item only by appending its record. -/
theorem State.hasOutputItem_appendPending {s : State} {i : OutputItem} (p : PendingItem) (h : s.hasOutputItem i) :
    (s.appendPending .urgent p).hasOutputItem i := by
  obtain recorded | held := h
  · exact .inl ((s.appendPending_prefix .urgent .urgent p).mem recorded)
  · unfold State.appendPending
    cases p with
    | module slot =>
      dsimp only
      split
      · exact .inr (by simpa using held)
      · exact .inr held
    | output o =>
      dsimp only
      split
      next j taken =>
        by_cases own : o = i.output
        · have same : j = i := by simpa [own, List.getD_eq_getElem?_getD, held] using taken.symm
          exact .inl (by simp [same])
        · exact .inr (by simpa [List.getElem?_set_ne own] using held)
      · exact .inr held
    | pressEnd k =>
      dsimp only
      split
      · exact .inr (by simpa using held)
      · exact .inr held
    | object n => exact .inr (by simpa using held)

theorem State.hasOutputItem_refillUpTo {s : State} {i : OutputItem} (n : Nat) (h : s.hasOutputItem i) :
    (State.refillUpTo .urgent n s).hasOutputItem i := by
  induction n generalizing s with
  | zero => exact h
  | succ n ih =>
    unfold State.refillUpTo
    split
    · exact h
    · exact ih (State.hasOutputItem_appendPending _ h)

/-- An admitted item is recorded at once; another is held, and the refill leaves it held or records it. -/
theorem State.hasOutputItem_handOutput {s : State} {i : OutputItem} (h : i.output < s.journal.outputPending.length) :
    (s.handOutput i).hasOutputItem i := by
  unfold State.handOutput
  split
  · exact .inl (by simp)
  · exact State.hasOutputItem_refillUpTo _ (.inr (by simp [h]))

end Sys2Proof.Machine
end

section
/-! PROOFS. CLEAR-LATCH for an output (R143): when the readback holds the fault, one equation per answer, and the
obligation. -/

namespace Sys2Proof.Machine

section Clear

variable {s : State} {tag : Octet} {o : Nat}

theorem State.faultGone_iff (s : State) (o : Nat) : s.faultGone o = true ↔ (s.output o).readback = none ∨
    ∃ c l, (s.output o).readback = some c ∧ s.accepted c = some l ∧ l ≠ (s.output o).sense := by
  unfold State.faultGone
  cases (s.output o).readback with
  | none => simp
  | some c => cases level : s.accepted c <;> simp [level]

theorem State.faultGone_of_held {c : Nat} (readback : (s.output o).readback = some c)
    (h : s.accepted c = none ∨ s.accepted c = some (s.output o).sense) : s.faultGone o = false := by
  obtain unknown | driven := h
  · simp [State.faultGone, readback, unknown]
  · simp [State.faultGone, readback, driven]

/-- A cleared output keeps its definition and nothing else (R118, R143). -/
theorem State.clearOutput_eq (isDefined : (s.output o).defined = true) :
    s.clearOutput o = (s.setOutput o ⟨true, (s.output o).pulse, (s.output o).readback, (s.output o).sense, .idle,
      none, none, none, none⟩).handOutput ⟨o, .idle, .cleared, s.time⟩ := by
  rw [← isDefined]
  rfl

/-! ### The answers, in their order -/

theorem serveClearLatchOutput_of_gt (ho : 63 < o) : serveClearLatchOutput o s = (s, refusal .badParam) := by
  simp [serveClearLatchOutput, outputs_le_iff, ho]

theorem serveClearLatchOutput_of_undefined (ho : o ≤ 63) (h : (s.output o).defined = false) :
    serveClearLatchOutput o s = (s, refusal .notDefined) := by
  simp [serveClearLatchOutput, outputs_le_iff, Nat.not_lt_of_le ho, h]

theorem serveClearLatchOutput_of_working (ho : o ≤ 63) (isDefined : (s.output o).defined = true)
    (h : (s.output o).state ≠ .faulted) : serveClearLatchOutput o s = (s, okWith []) := by
  simp [serveClearLatchOutput, outputs_le_iff, Nat.not_lt_of_le ho, isDefined, h]

theorem serveClearLatchOutput_of_faulted (ho : o ≤ 63) (isDefined : (s.output o).defined = true)
    (h : (s.output o).state = .faulted) : serveClearLatchOutput o s
      = if s.faultGone o then (s.clearOutput o, okWith []) else (s, refusal .stillActive) := by
  simp [serveClearLatchOutput, outputs_le_iff, Nat.not_lt_of_le ho, isDefined, h]

theorem exec_clearLatchOutput_eq_request (tag : Octet) (o : Nat) (s : State) :
    exec (.clearLatchOutput tag o) s = .next (s.request (.clearLatchOutput tag o) (serveClearLatchOutput o)) := by
  rfl

theorem exec_clearLatchOutput {t : State} {reply : Reply} (h : s.serves)
    (served : serveClearLatchOutput o s = (t, reply)) (timers : ∀ n, (t.object n).timer = (s.object n).timer)
    (slots : ∀ k, (t.slot k).isWatching = true → (s.slot k).isWatching = true) :
    exec (.clearLatchOutput tag o) s = .next (t.afterReply 0xA6#8 tag reply.result reply.fields) := by
  have quiet := State.request_quiet h (i := .clearLatchOutput tag o) rfl (by decide : kindClearLatch ≠ kindDiscarded)
    served timers slots
  rw [exec_clearLatchOutput_eq_request, quiet]
  rfl

theorem exec_clearLatchOutput_unchanged {r : ResultCode} (h : s.serves)
    (served : serveClearLatchOutput o s = (s, ⟨r, []⟩)) :
    exec (.clearLatchOutput tag o) s = .next (s.afterReply 0xA6#8 tag r []) :=
  exec_clearLatchOutput h served (fun _ => rfl) (fun _ => id)

/-- The hand-over of an OUTPUT item starts no timer and no watch, so the reply alone follows a clear. -/
theorem exec_clearLatchOutput_handed {r : OutputRecord} {i : OutputItem} (h : s.serves)
    (served : serveClearLatchOutput o s = ((s.setOutput o r).handOutput i, okWith [])) :
    exec (.clearLatchOutput tag o) s = .next (((s.setOutput o r).handOutput i).afterReply 0xA6#8 tag .ok []) :=
  have relays := (s.setOutput o r).handOutput_sameRelays i
  exec_clearLatchOutput h served relays.timers relays.watching

end Clear

/-- Settles O49: the refusals in their order, and the clear, whose item the journal has however the lane stands. -/
theorem outputIsCleared : Obligations.OutputIsCleared := by
  intro s tag o serves
  refine ⟨fun above => exec_clearLatchOutput_unchanged serves (serveClearLatchOutput_of_gt above),
    fun ho undefined => exec_clearLatchOutput_unchanged serves (serveClearLatchOutput_of_undefined ho undefined),
    fun ho isDefined => ⟨fun working => ?working, fun c faulted readback held => ?stillActive,
      fun faulted gone shaped v u hv hu => ?cleared⟩⟩
  case working => exact exec_clearLatchOutput_unchanged serves (serveClearLatchOutput_of_working ho isDefined working)
  case stillActive =>
    have served := serveClearLatchOutput_of_faulted ho isDefined faulted
    rw [State.faultGone_of_held readback held] at served
    exact exec_clearLatchOutput_unchanged serves served
  case cleared =>
    subst hv hu
    have served := serveClearLatchOutput_of_faulted ho isDefined faulted
    rw [if_pos ((s.faultGone_iff o).mpr gone), State.clearOutput_eq isDefined] at served
    have place : o < s.journal.outputPending.length := shaped.outputPending ▸ Nat.lt_succ_of_le ho
    exact ⟨exec_clearLatchOutput_handed serves served, State.handOutput_sameRelays _ _, State.handOutput_link _ _,
      State.hasOutputItem_handOutput place⟩

end Sys2Proof.Machine
end

section
/-! PROOFS. One step, said once: every command is power applied, or nothing, or one event of the part or of its
environment. A property that leads from the state before each of these events to the one after it leads over every
step. -/

namespace Sys2Proof.Machine

/-- Each event of the part leads from states with `P` to states with `Q`; the power that is applied is left out. -/
structure EventsLead (P Q : State → Prop) : Prop where
  still : ∀ s, P s → Q s
  later : ∀ s t, s.time ≤ t → P s → P (s.setTime t)
  receiver : ∀ s r, P s → P (s.setReceiver r)
  dropped : ∀ s, P s → Q s.dropRequest
  answered : ∀ s i f r, s.takesFrames = true → s.repliesFull = false → P s →
    Q (State.finish s ((serveRequest i s).1.answer f r))
  echoed : ∀ s f, s.takesFrames = true → s.repliesFull = false → P s → Q (State.finish s (s.enqueue f))
  sent : ∀ s, P s → Q s.frameSent
  powerLost : ∀ s, P s → Q (s.blocksBlank.setPower .off)
  loaded : ∀ s b, s.power = .loading b → P s → Q s.completeLoad
  scanStarted : ∀ s, P s → Q (State.finish s s.startScan)
  scanned : ∀ s scan reads, s.scanner.scan = some scan → P s → Q (State.finish s (s.completeScan scan reads))
  timer : ∀ s n e, (s.object n).timer = some e → P s → Q (State.finish s (s.expireTimer n e))
  pulse : ∀ s o e, (s.output o).state = .driven → P s → Q (State.finish s (s.endPulse o e))
  window : ∀ s o e, (s.output o).state = .releasing → P s → Q (State.finish s (s.endWindow o e))
  gap : ∀ s k op e, s.slot k = .gap op e → P s → Q (State.finish s (s.endGap k))
  watch : ∀ s k op e, s.slot k = .watching op e → P s →
    Q (State.finish s (s.endOperation k (endReport .timedOut e)))
  stored : ∀ s x, P s → Q (s.setStore x)

/-- A request command is its frame, taken by the owner that serves it (R151). -/
theorem exec_of_request {i : Instr} {f : Frame} (frame : encodeRequest i = some f) (s : State) :
    exec i s = .next (s.takeFrame f (serveRequest i)) := by
  have whole : exec i s = .next (s.request i (serveRequest i)) := by
    cases i
    case powerOn | powerLoss | startUpLoadComplete | scanStart | scanCompletion | objectTimerExpiry | pulseEnd
        | windowExpiry | gapExpiry | watchExpiry | saveWritingEnd | saveCompletion | frameDiscarded | requestDropped
        | unknownKind | echoFrame | frameSent | octetReceived => exact absurd frame (by simp [encodeRequest])
    all_goals rfl
  rw [whole, State.request, frame]

/-- What becomes of a valid frame (R151, R152, R159): it is not taken, dropped, echoed, or served. -/
theorem State.takeFrame_cases (s : State) (f : Frame) (serve : State → State × Reply) :
    s.takeFrame f serve = s ∨ s.takeFrame f serve = s.dropRequest ∨
      (s.takesFrames = true ∧ s.repliesFull = false ∧
        (s.takeFrame f serve = State.finish s (s.enqueue f) ∨
          s.takeFrame f serve = State.finish s ((serve s).1.answer f (serve s).2))) := by
  unfold State.takeFrame
  split
  · exact .inl rfl
  next takes =>
    split
    · exact .inr (.inl rfl)
    next room =>
      have open' : s.takesFrames = true ∧ s.repliesFull = false := by simpa using And.intro takes room
      split
      · exact .inr (.inr ⟨open'.1, open'.2, .inl rfl⟩)
      · split
        · exact .inl rfl
        · exact .inr (.inr ⟨open'.1, open'.2, .inr rfl⟩)

/-- Whatever a frame is, what its owner leaves is what the owner of some command leaves; a command that is no request
has an owner that changes nothing. -/
theorem serveDecoded_fst (d : Decoded) (s : State) : ∃ i, (serveDecoded d s).1 = (serveRequest i s).1 := by
  cases d with
  | request i => exact ⟨i, rfl⟩
  | badLength => exact ⟨.powerLoss, rfl⟩
  | badCode b => exact ⟨.powerLoss, rfl⟩
  | notARequest => exact ⟨.powerLoss, rfl⟩

theorem State.reach_cases {s t : State} {d : Stamp} (h : s.reach d = some t) :
    t = s ∨ s.time < d ∧ t = s.setTime d := by
  unfold State.reach at h
  split at h
  · exact .inl (Option.some.inj h).symm
  next past =>
    split at h
    · exact .inr ⟨Nat.lt_of_not_le past, (Option.some.inj h).symm⟩
    · exact absurd h (by simp)

/-- An event that falls due either does not happen, or happens at its due time or now. -/
theorem State.event_cases (s : State) (due : Option Stamp) (act : Stamp → State → State) :
    s.event due act = s ∨ ∃ d t, due = some d ∧ (t = s ∨ s.time < d ∧ t = s.setTime d) ∧
      s.event due act = State.finish t (act d t) := by
  cases due with
  | none => exact .inl rfl
  | some d =>
    cases h : s.reach d with
    | none => exact .inl (by simp [State.event, State.atDue, h])
    | some t => exact .inr ⟨d, t, rfl, State.reach_cases h, by simp [State.event, State.atDue, h]⟩

namespace EventsLead

variable {P Q : State → Prop} (K : EventsLead P Q)
include K

theorem takeFrame {s : State} {f : Frame} {serve : State → State × Reply} (h : P s)
    (owner : ∃ i, (serve s).1 = (serveRequest i s).1) : Q (s.takeFrame f serve) := by
  obtain e | e | ⟨takes, room, e | e⟩ := s.takeFrame_cases f serve
  · rw [e]
    exact K.still s h
  · rw [e]
    exact K.dropped s h
  · rw [e]
    exact K.echoed s f takes room h
  · obtain ⟨i, same⟩ := owner
    rw [e, same]
    exact K.answered s i f _ takes room h

theorem handFrame {s : State} {f : Frame} (h : P s) : Q (s.handFrame f) :=
  K.takeFrame h (serveDecoded_fst _ s)

theorem handReceived {s : State} {x : Receiver × Option Frame} (h : P s) : Q (s.handReceived x) := by
  unfold State.handReceived
  split
  · exact K.still _ (K.receiver _ _ h)
  · exact K.handFrame (K.receiver _ _ h)

/-- An event that falls due leads from `P` to `Q` where it does so at the time it is taken. -/
theorem event {s : State} {due : Option Stamp} {act : Stamp → State → State} (h : P s)
    (effect : ∀ d t, due = some d → (t = s ∨ t = s.setTime d) → P t → Q (State.finish t (act d t))) :
    Q (s.event due act) := by
  obtain e | ⟨d, t, hd, rfl | ⟨past, rfl⟩, e⟩ := s.event_cases due act
  · rw [e]
    exact K.still s h
  · rw [e]
    exact effect d _ hd (.inl rfl) h
  · rw [e]
    exact effect d _ hd (.inr rfl) (K.later s d (Nat.le_of_lt past) h)

/-- What the events lead to may be weakened. -/
theorem weaken {R : State → Prop} (weaker : ∀ s, Q s → R s) : EventsLead P R where
  still s h := weaker _ (K.still s h)
  later := K.later
  receiver := K.receiver
  dropped s h := weaker _ (K.dropped s h)
  answered s i f r takes room h := weaker _ (K.answered s i f r takes room h)
  echoed s f takes room h := weaker _ (K.echoed s f takes room h)
  sent s h := weaker _ (K.sent s h)
  powerLost s h := weaker _ (K.powerLost s h)
  loaded s b loading h := weaker _ (K.loaded s b loading h)
  scanStarted s h := weaker _ (K.scanStarted s h)
  scanned s scan reads running h := weaker _ (K.scanned s scan reads running h)
  timer s n e running h := weaker _ (K.timer s n e running h)
  pulse s o e driven h := weaker _ (K.pulse s o e driven h)
  window s o e releasing h := weaker _ (K.window s o e releasing h)
  gap s k op e slot h := weaker _ (K.gap s k op e slot h)
  watch s k op e slot h := weaker _ (K.watch s k op e slot h)
  stored s x h := weaker _ (K.stored s x h)

/-- Every command but POWER_ON leads from `P` to `Q`. -/
theorem exec {i : Instr} {s t : State} (h : P s) (run : exec i s = .next t) :
    (∃ straps, i = .powerOn straps) ∨ Q t := by
  cases frame : encodeRequest i with
  | some f =>
    rw [exec_of_request frame] at run
    obtain rfl := Host.Outcome.next.inj run
    exact .inr (K.takeFrame h ⟨i, rfl⟩)
  | none =>
    cases i
    case powerOn straps => exact .inl ⟨straps, rfl⟩
    all_goals refine .inr ?_
    case powerLoss =>
      obtain rfl := Host.Outcome.next.inj run
      exact K.powerLost s h
    case startUpLoadComplete =>
      obtain rfl := Host.Outcome.next.inj run
      split
      · exact K.loaded s _ ‹_› h
      · exact K.still s h
      · exact K.still s h
    case scanStart =>
      obtain rfl := Host.Outcome.next.inj run
      split
      · exact K.event h fun d t _ _ ht => K.scanStarted t ht
      · exact K.still s h
    case scanCompletion reads =>
      obtain rfl := Host.Outcome.next.inj run
      split
      · exact K.still s h
      · exact K.scanned s _ reads ‹_› h
    case objectTimerExpiry n =>
      obtain rfl := Host.Outcome.next.inj run
      exact K.event h fun d t due at' ht => K.timer t n d (by obtain rfl | rfl := at' <;> exact due) ht
    case pulseEnd o =>
      obtain rfl := Host.Outcome.next.inj run
      refine K.event h fun d t due at' ht => K.pulse t o d ?_ ht
      have driven : (s.output o).state = .driven := by
        by_contra no
        simp [State.pulseDue, no] at due
      obtain rfl | rfl := at' <;> exact driven
    case windowExpiry o =>
      obtain rfl := Host.Outcome.next.inj run
      refine K.event h fun d t due at' ht => K.window t o d ?_ ht
      have releasing : (s.output o).state = .releasing := by
        by_contra no
        simp [State.windowDue, no] at due
      obtain rfl | rfl := at' <;> exact releasing
    case gapExpiry k =>
      obtain rfl := Host.Outcome.next.inj run
      refine K.event h fun d t due at' ht => ?_
      have gap : ∃ op e, s.slot k = .gap op e := by
        cases slot : s.slot k <;> simp_all [Slot.gapExpiry]
      obtain ⟨op, e, slot⟩ := gap
      exact K.gap t k op e (by obtain rfl | rfl := at' <;> exact slot) ht
    case watchExpiry k =>
      obtain rfl := Host.Outcome.next.inj run
      refine K.event h fun d t due at' ht => ?_
      have watch : ∃ op, s.slot k = .watching op d := by
        cases slot : s.slot k <;> simp_all [Slot.watchExpiry]
      obtain ⟨op, slot⟩ := watch
      exact K.watch t k op d (by obtain rfl | rfl := at' <;> exact slot) ht
    case saveWritingEnd memory =>
      obtain rfl := Host.Outcome.next.inj run
      split
      · exact K.stored s _ h
      · exact K.still s h
    case saveCompletion =>
      obtain rfl := Host.Outcome.next.inj run
      split
      · unfold State.completeSave
        split <;> exact K.stored s _ h
      · exact K.still s h
    case frameDiscarded cause =>
      obtain rfl := Host.Outcome.next.inj run
      exact K.still _ (K.receiver s _ h)
    case requestDropped f =>
      obtain rfl := Host.Outcome.next.inj run
      split
      · exact K.dropped s h
      · exact K.still s h
    case unknownKind f =>
      obtain rfl := Host.Outcome.next.inj run
      split
      · exact K.still s h
      · exact K.takeFrame h ⟨.powerLoss, rfl⟩
    case echoFrame f =>
      obtain rfl := Host.Outcome.next.inj run
      split
      · exact K.takeFrame h ⟨.powerLoss, rfl⟩
      · exact K.still s h
    case frameSent =>
      obtain rfl := Host.Outcome.next.inj run
      split
      · exact K.sent s h
      · exact K.still s h
    case octetReceived o =>
      obtain rfl := Host.Outcome.next.inj run
      split
      · exact K.handReceived h
      · exact K.still s h
    all_goals exact absurd frame (by simp [encodeRequest])

/-- Every step leads from `P` to `Q`, where power applied does. -/
theorem step {s t : State} (queue : ∀ s cs, P s → P (s.setPending cs))
    (powered : ∀ s straps, P s → Q (((s.blocksBlank.setTime 0).setStraps straps).setPower (.loading 0)))
    (h : P s) (run : Machine.step s = .next t) : Q t := by
  have runs : ∀ (i : Instr) (u : State), P u → Machine.exec i u = .next t → Q t := by
    intro i u hu e
    obtain ⟨straps, rfl⟩ | q := K.exec hu e
    · obtain rfl := Host.Outcome.next.inj e
      exact powered u straps hu
    · exact q
  unfold Machine.step at run
  split at run
  · unfold idle at run
    split at run
    · obtain rfl := Host.Outcome.next.inj run
      exact K.still s h
    · split at run
      · exact runs _ s h run
      · split at run
        · obtain rfl := Host.Outcome.next.inj run
          exact K.still s h
        · unfold tick at run
          split at run
          · obtain rfl := Host.Outcome.next.inj run
            exact K.still _ (K.later s _ (Nat.le_succ _) h)
          · exact absurd run (by simp)
  · exact runs _ _ (queue s _ h) run

end EventsLead

end Sys2Proof.Machine
end

section
/-! PROOFS. What a served request can do, said once: the state its owner leaves, with the checks it has passed. -/

namespace Sys2Proof.Machine

/-- The states the owner of request `i` leaves. -/
inductive Served (i : Instr) (s : State) : State → Prop where
  | same : Served i s s
  | mode (m : LinkMode) : Served i s (s.setMode m)
  | hold (b : Bool) : Served i s (s.setHold b)
  | fetched (u r : Nat) : Served i s (s.fetched u r)
  | synced (running : s.running = true) : Served i s s.markAll
  | scanSet (period tolerance : Nat) : Served i s (s.setScanner { s.scanner with
      period := clampPeriod period
      tolerance := clampTolerance tolerance
      modules := s.scanner.modules.map (ModuleRecord.lowerCounter (clampTolerance tolerance)) })
  | modulesDefined (map : List ModuleEntry) (unused : s.inUse = false)
      (defines : ∃ tag entries, i = .defineModules tag entries) :
      Served i s ((s.setScanner (s.scanner.redefined map s.time)).setContacts
        (s.filter.contacts.map (fun c => .fresh c.profile)))
  | moduleOut (slot : Nat) : Served i s (s.takeModuleOut slot)
  | moduleIn (slot : Nat) : Served i s (s.putModuleBack slot)
  | moduleUnlatched (slot : Nat) : Served i s (s.setScanner (s.scanner.setModule slot .unlatched))
  | profileDefined (p : Nat) (new : ContactProfile) :
      Served i s ((s.setProfile p new).changeContacts (reprofile p (s.profile p) new s.filter.contacts))
  | profileAssigned (first last p : Nat) : Served i s (s.changeContacts (s.assign first last p))
  | flashDefined (p : Nat) (new : FlashProfile) : Served i s (s.defineFlash p new).1
  | objectDefined (n : Nat) (d : Definition) (resting : (s.object n).service ≠ .inService) :
      Served i s (s.setObject n d.record)
  | objectRemoved (n : Nat) (resting : (s.object n).service = .outOfService) : Served i s (s.setObject n .undefined)
  | objectIn (n : Nat) (d : Definition) (range : n < Config.objects) (resting : (s.object n).service = .outOfService)
      (definition : (s.object n).definition = some d) : Served i s (s.takeObjectIn n d)
  | objectOut (n : Nat) (serving : (s.object n).service = .inService) : Served i s (s.takeObjectOut n)
  | objectUnlatched (n : Nat) (p : Presented) (defined : (s.object n).service ≠ .undefined)
      (presented : (s.object n).presented = some p) : Served i s (s.unlatchObject n p)
  | outputCleared (o : Nat) (defined : (s.output o).defined = true) (faulted : (s.output o).state = .faulted) :
      Served i s (s.clearOutput o)
  | outputDefined (o pulse : Nat) (fields : Bool × Option Nat × Level)
      (resting : (s.output o).defined = true → (s.output o).state = .idle) :
      Served i s (s.setOutput o ((s.output o).redefined pulse fields))
  | pressed (k : Nat) (op : Operation) (running : s.running = true) (allowed : s.press.inhibit = false)
      (fit : stepsFit op.steps = true) (first : op.step = 1) (sound : s.stepFault op.steps = none)
      (slot : s.freeSlot = some k) : Served i s ((s.claim k op.steps).stepDue k op)
  | aborted (k : Nat) : Served i s (s.endOperation k (endReport .aborted s.time))
  | inhibited : Served i s ((List.range Config.pressSlots).foldl State.inhibitSlot (s.setInhibit true))
  | enabled (strap : s.straps.pressEnable = true) : Served i s (s.setInhibit false)
  | saving : Served i s s.beginSave
  | restarting : Served i s s.beginRestart

section Owners

variable {i : Instr} (s : State)

theorem served_setMode (mode : Nat) : Served i s (serveSetMode mode s).1 := by
  unfold serveSetMode
  split
  · exact .same
  · exact .mode _

theorem served_flow (hold : Nat) : Served i s (serveFlow hold s).1 := by
  unfold serveFlow
  split
  · exact .same
  · exact .hold _

theorem served_fetch (selection count : Nat) : Served i s (serveFetch selection count s).1 := by
  unfold serveFetch
  split
  · exact .same
  · exact .fetched _ _

theorem served_sync : Served i s (serveSync s).1 := by
  unfold serveSync
  split
  · exact .synced ‹_›
  · exact .same

theorem served_setScan (period tolerance : Nat) : Served i s (serveSetScan period tolerance s).1 := by
  unfold serveSetScan
  split
  · exact .same
  · exact .scanSet _ _

theorem served_defineModules (tag : Octet) (entries : List ModuleEntryField) :
    Served (.defineModules tag entries) s (serveDefineModules entries s).1 := by
  unfold serveDefineModules
  split
  · exact .same
  · split
    · exact .same
    next unused =>
      split
      · exact .same
      · exact .modulesDefined _ (by simpa using unused) ⟨tag, entries, rfl⟩

theorem served_moduleServiceOut (slot : Nat) : Served i s (serveModuleServiceOut slot s).1 := by
  unfold serveModuleServiceOut
  split
  · exact .same
  · split
    · exact .same
    · split
      · exact .same
      · split
        · exact .same
        · dsimp only
          exact .moduleOut slot

theorem served_moduleServiceIn (slot : Nat) : Served i s (serveModuleServiceIn slot s).1 := by
  unfold serveModuleServiceIn
  split
  · exact .same
  · split
    · exact .same
    · split
      · exact .same
      · split
        · exact .moduleIn slot
        · exact .same

theorem served_clearLatchModule (slot : Nat) : Served i s (serveClearLatchModule slot s).1 := by
  unfold serveClearLatchModule
  split
  · exact .same
  · split
    · exact .same
    · split
      · exact .same
      · exact .moduleUnlatched slot

theorem served_readModules (start count : Nat) : Served i s (serveReadModules start count s).1 := by
  unfold serveReadModules
  split <;> exact .same

theorem served_defineProfile (p k h l flash : Nat) : Served i s (serveDefineProfile p k h l flash s).1 := by
  unfold serveDefineProfile
  split
  · exact .same
  · split
    · exact .same
    · dsimp only
      exact .profileDefined _ _

theorem served_assignProfile (first last p : Nat) : Served i s (serveAssignProfile first last p s).1 := by
  unfold serveAssignProfile
  split
  · exact .same
  · split
    · exact .same
    · dsimp only
      exact .profileAssigned _ _ _

theorem served_defineFlash (p pMin pMax dMin dMax confirm active : Nat) :
    Served i s (serveDefineFlash p pMin pMax dMin dMax confirm active s).1 := by
  unfold serveDefineFlash
  split
  · exact .same
  · split
    · exact .same
    · split
      · exact .same
      · dsimp only
        split
        · exact .same
        · exact .flashDefined _ _

theorem served_readContacts (start count : Nat) : Served i s (serveReadContacts start count s).1 := by
  unfold serveReadContacts
  split <;> exact .same

theorem served_defineObject (n kind urgency timing : Nat) (refs : List ReferenceField) :
    Served i s (serveDefineObject n kind urgency timing refs s).1 := by
  unfold serveDefineObject
  split
  · exact .same
  · split
    · exact .same
    · split
      · exact .same
      · split
        · exact .same
        · exact .objectDefined n _ ‹_›

theorem served_removeObject (n : Nat) : Served i s (serveRemoveObject n s).1 := by
  unfold serveRemoveObject
  split
  · exact .same
  · split
    · exact .same
    · split
      · exact .objectRemoved n ‹_›
      · exact .same

theorem served_objectServiceIn (n : Nat) : Served i s (serveObjectServiceIn n s).1 := by
  unfold serveObjectServiceIn
  split
  · exact .same
  · split
    · exact .same
    next range =>
      split
      · exact .objectIn n _ (Nat.lt_of_not_le range) ‹_› ‹_›
      · exact .same

theorem served_objectServiceOut (n : Nat) : Served i s (serveObjectServiceOut n s).1 := by
  unfold serveObjectServiceOut
  split
  · exact .same
  · split
    · exact .same
    · split
      · exact .objectOut n ‹_›
      · exact .same

theorem served_readDefinition (n : Nat) : Served i s (serveReadDefinition n s).1 := by
  unfold serveReadDefinition
  split
  · exact .same
  · split
    · exact .same
    · split <;> exact .same

theorem served_readObjects (start count : Nat) : Served i s (serveReadObjects start count s).1 := by
  unfold serveReadObjects
  split <;> exact .same

theorem served_check (fields : List CheckItemField) : Served i s (serveCheck fields s).1 := by
  unfold serveCheck
  split
  · exact .same
  · split <;> exact .same

theorem served_clearLatchObject (n : Nat) : Served i s (serveClearLatchObject n s).1 := by
  unfold serveClearLatchObject
  split
  · exact .same
  · split
    · exact .same
    · split
      · exact .same
      · split
        · exact .same
        · split
          · exact .same
          · exact .objectUnlatched n _ ‹_› ‹_›

theorem served_clearLatchOutput (o : Nat) : Served i s (serveClearLatchOutput o s).1 := by
  unfold serveClearLatchOutput
  split
  · exact .same
  · split
    · exact .same
    next defined =>
      split
      · exact .same
      next faulted =>
        split
        · exact .outputCleared o (by simpa using defined) (by simpa using faulted)
        · exact .same

theorem served_defineOutput (o defined pulse readback sense : Nat) :
    Served i s (serveDefineOutput o defined pulse readback sense s).1 := by
  unfold serveDefineOutput
  split
  · exact .same
  · split
    · exact .same
    · split
      · exact .same
      · split
        · exact .same
        next resting => exact .outputDefined o _ _ (by simpa using resting)

theorem served_press (deskTag : Nat) (steps : List Nat) (gap watch : Nat) (items : List CheckItemField) :
    Served i s (servePress deskTag steps gap watch items s).1 := by
  unfold servePress
  split
  · exact .same
  next running =>
    split
    · exact .same
    next allowed =>
      split
      · exact .same
      next fit =>
        split
        · exact .same
        · split
          · exact .same
          next sound =>
            split
            · exact .same
            next slot =>
              exact .pressed _ ⟨deskTag, steps, 1, clampGap gap, clampWatch watch, _⟩ (by simpa using running)
                (by simpa using allowed) (by simpa using fit) rfl sound slot

theorem served_pressStatus (k : Nat) : Served i s (servePressStatus k s).1 := by
  unfold servePressStatus
  split <;> exact .same

theorem served_pressAbort (k : Nat) : Served i s (servePressAbort k s).1 := by
  unfold servePressAbort
  split
  · exact .same
  · split
    · exact .same
    · exact .aborted k

theorem served_pressInhibitOff : Served i s (servePressInhibitOff s).1 := by
  unfold servePressInhibitOff
  split
  · exact .enabled ‹_›
  · exact .same

theorem served_readOutputs (start count : Nat) : Served i s (serveReadOutputs start count s).1 := by
  unfold serveReadOutputs
  split <;> exact .same

theorem served_save : Served i s (serveSave s).1 := by
  unfold serveSave
  split
  · exact .same
  · exact .saving

theorem served_restart : Served i s (serveRestart s).1 := by
  unfold serveRestart
  split
  · exact .same
  · exact .restarting

/-- The owner of a command, if it has one, leaves one of these states. -/
theorem served_serveRequest (i : Instr) : Served i s (serveRequest i s).1 := by
  cases i
  case setMode tag m => exact served_setMode s m
  case flow tag v => exact served_flow s v
  case fetch tag x c => exact served_fetch s x c
  case sync => exact served_sync s
  case setScan tag p t => exact served_setScan s p t
  case defineModules tag es => exact served_defineModules s tag es
  case moduleServiceOut tag k => exact served_moduleServiceOut s k
  case moduleServiceIn tag k => exact served_moduleServiceIn s k
  case readModules tag a c => exact served_readModules s a c
  case defineProfile tag p k h l f => exact served_defineProfile s p k h l f
  case assignProfile tag a b p => exact served_assignProfile s a b p
  case defineFlash tag p a b c d f v => exact served_defineFlash s p a b c d f v
  case readContacts tag a c => exact served_readContacts s a c
  case defineObject tag n k u t rs => exact served_defineObject s n k u t rs
  case removeObject tag n => exact served_removeObject s n
  case objectServiceIn tag n => exact served_objectServiceIn s n
  case objectServiceOut tag n => exact served_objectServiceOut s n
  case readDefinition tag n => exact served_readDefinition s n
  case readObjects tag a c => exact served_readObjects s a c
  case check tag cs => exact served_check s cs
  case clearLatchObject tag n => exact served_clearLatchObject s n
  case clearLatchModule tag n => exact served_clearLatchModule s n
  case clearLatchOutput tag n => exact served_clearLatchOutput s n
  case defineOutput tag o d p r v => exact served_defineOutput s o d p r v
  case press tag g st gap w cs => exact served_press s g st gap w cs
  case pressStatus tag k => exact served_pressStatus s k
  case pressAbort tag k => exact served_pressAbort s k
  case pressInhibitOn => exact .inhibited
  case pressInhibitOff => exact served_pressInhibitOff s
  case readOutputs tag a c => exact served_readOutputs s a c
  case save => exact served_save s
  case restart => exact served_restart s
  all_goals exact .same

end Owners

end Sys2Proof.Machine
end

section
/-! PROOFS. A property that the named updates keep is kept by the owners of requests, by a scan completion and by the
end of an event. -/

namespace Sys2Proof.Machine

/-- A property kept, besides, by what owners write: records taken from a lane, the scanner but for the part state,
contacts, profiles, the index, inhibit, the store, and the link's mode, hold and restart flag. -/
structure KeptByRequests (P : State → Prop) : Prop extends Kept P where
  drop : ∀ s l n, P s → P (s.dropRecords l n)
  scanner : ∀ s x, x.part = s.scanner.part → P s → P (s.setScanner x)
  contacts : ∀ s cs, P s → P (s.setContacts cs)
  profile : ∀ s p x, P s → P (s.setProfile p x)
  flash : ∀ s p x, P s → P (s.setFlash p x)
  index : ∀ s x, P s → P (s.setIndex x)
  inhibit : ∀ s b, P s → P (s.setInhibit b)
  store : ∀ s x, P s → P (s.setStore x)
  switches : ∀ s m h r, P s → P (s.setLink { s.link with mode := m, hold := h, restarting := r })

/-- A property kept, besides, by a new module map, under which the part is not RUNNING (R5). -/
structure KeptByOwners (P : State → Prop) : Prop extends KeptByRequests P where
  redefined : ∀ s x, x.part ≠ .running → P s → P (s.setScanner x)

theorem Scanner.redefined_part (x : Scanner) (map : List ModuleEntry) (now : Stamp) :
    (x.redefined map now).part ≠ .running := by
  unfold Scanner.redefined
  dsimp only
  split <;> simp

namespace KeptByRequests

variable {P : State → Prop} (K : KeptByRequests P)
include K

theorem refillTaken {s : State} {l : Lane} {n : Nat} (h : P s) : P (s.refillTaken l n) := by
  unfold State.refillTaken
  split
  · exact h
  · exact K.refill h

theorem fetched {s : State} {u r : Nat} (h : P s) : P (s.fetched u r) :=
  K.refillTaken (K.refillTaken (K.drop _ _ _ (K.drop _ _ _ h)))

theorem changeContacts {s : State} {cs : List Contact} (h : P s) : P (s.changeContacts cs) :=
  K.applyBatch (K.contacts _ _ h)

theorem handAlone {s : State} {c : Change} (h : P s) : P (s.handAlone c) := K.handToPress (K.handChange h)

theorem inhibitSlot {s : State} {k : Nat} (h : P s) : P (s.inhibitSlot k) := by
  unfold State.inhibitSlot
  split
  · exact K.endOperation h
  · exact h

/-- What an owner leaves has the property, where a new module map that DEFINE-MODULES brings does so. -/
theorem served {i : Instr} {s t : State} (h : P s) (v : Served i s t)
    (defined : (∃ tag entries, i = .defineModules tag entries) → ∀ map : List ModuleEntry,
      P ((s.setScanner (s.scanner.redefined map s.time)).setContacts
        (s.filter.contacts.map (fun c => .fresh c.profile)))) : P t := by
  cases v with
  | same => exact h
  | mode m => exact K.switches s m s.link.hold s.link.restarting h
  | hold b => exact K.switches s s.link.mode b s.link.restarting h
  | fetched u r => exact K.fetched h
  | synced => exact K.markAll h
  | scanSet p t => exact K.scanner s _ rfl h
  | modulesDefined map _ defines => exact defined defines map
  | moduleOut slot => exact K.applyBatch (K.contacts _ _ (K.handModule (K.scanner s _ rfl h)))
  | moduleIn slot => exact K.handModule (K.scanner s _ rfl h)
  | moduleUnlatched slot => exact K.scanner s _ rfl h
  | profileDefined p new => exact K.changeContacts (K.profile _ _ _ h)
  | profileAssigned first last p => exact K.changeContacts h
  | flashDefined p new =>
    unfold State.defineFlash
    split
    · exact h
    · dsimp only
      exact K.changeContacts (K.flash _ _ _ h)
  | objectDefined n d => exact K.setObject h
  | objectRemoved n => exact K.setObject h
  | objectIn n d => exact K.handToPress (K.resolve (K.index _ _ (K.setObject h)))
  | objectOut n => exact K.handAlone (K.index _ _ (K.setObject h))
  | objectUnlatched n p => exact K.handAlone (K.setObject h)
  | outputCleared o => exact K.handOutput (K.setOutput h)
  | outputDefined o => exact K.setOutput h
  | pressed k op => exact K.stepDue (K.outputs _ _ h)
  | aborted k => exact K.endOperation h
  | inhibited => exact kept_foldl (fun _ _ => K.inhibitSlot) _ (K.inhibit _ _ h)
  | enabled => exact K.inhibit _ _ h
  | saving => exact K.store _ _ h
  | restarting => exact K.switches s s.link.mode s.link.hold true h

theorem judgeAcquisition {s : State} {t : Stamp} (running : ∀ u, P u → P u.enterRunning) (h : P s) :
    P (s.judgeAcquisition t) := by
  unfold State.judgeAcquisition
  split
  · exact K.markAll (running _ (K.handModules h))
  · exact h

/-- A scan completion up to its judgement of the part state. -/
theorem scanApplied {s : State} {scan : Scan} {outcomes : List ModuleOutcome} {items : List ModuleItem}
    {cs : List Contact} {entries : List BatchEntry} (h : P s) :
    P ((((s.setScanner (s.scanner.afterScan scan outcomes)).handModules items).setContacts cs).applyBatch entries) :=
  K.applyBatch (K.contacts _ _ (K.handModules (K.scanner s _ rfl h)))

theorem completeScan {s : State} {scan : Scan} {reads : List ModuleRead} (running : ∀ u, P u → P u.enterRunning)
    (h : P s) : P (s.completeScan scan reads) :=
  K.judgeAcquisition running (K.scanApplied h)

end KeptByRequests

/-- The end of an event keeps what the choice of the transmitter keeps. -/
theorem Kept.finish {P : State → Prop} (K : Kept P) (choose : ∀ s, P s → P s.chooseFrame) {before s : State}
    (h : P s) : P (State.finish before s) := by
  have objects : ∀ (u : State) (n : Nat), P u → P (State.expireAtOnce before u n) := by
    intro u n hu
    unfold State.expireAtOnce
    split
    · exact hu
    · split
      · exact choose _ (K.expireTimer hu)
      · exact hu
  have slots : ∀ (u : State) (k : Nat), P u → P (State.endZeroWatch before u k) := by
    intro u k hu
    unfold State.endZeroWatch
    split
    · split
      · exact choose _ (K.endOperation hu)
      · exact hu
    · exact hu
  exact kept_foldl slots _ (kept_foldl objects _ (choose _ h))

theorem KeptByOwners.serveRequest {P : State → Prop} (K : KeptByOwners P) {s : State} {i : Instr} (h : P s) :
    P (serveRequest i s).1 :=
  K.served h (served_serveRequest s i) fun _ _ => K.contacts _ _ (K.redefined s _ (Scanner.redefined_part _ _ _) h)

/-- A property of these updates leads over every event, where the choice of the transmitter, a reply that joins a queue
with room, time, power and the load keep it; entry to RUNNING alone may lead out of it. -/
theorem KeptByOwners.eventsLead {P Q : State → Prop} (K : KeptByOwners P) (choose : ∀ s, P s → P s.chooseFrame)
    (later : ∀ s t, s.time ≤ t → P s → P (s.setTime t)) (receiver : ∀ s r, P s → P (s.setReceiver r))
    (flag : ∀ s b, P s → P (s.setLink { s.link with dropped := b }))
    (joined : ∀ (s t : State) (f : Frame), s.repliesFull = false → t.link.replies = s.link.replies → P t →
      P (t.enqueue f))
    (sending : ∀ s, P s → P (s.setSending none))
    (blank : ∀ s p, P s → P (s.blocksBlank.setPower p)) (loaded : ∀ s, P s → P s.completeLoad)
    (replies : ∀ s i, (Sys2Proof.Machine.serveRequest i s).1.link.replies = s.link.replies)
    (weaken : ∀ s, P s → Q s)
    (scanned : ∀ s scan reads, P s → Q (State.finish s (s.completeScan scan reads))) : EventsLead P Q where
  still := weaken
  later := later
  receiver := receiver
  dropped s h := weaken _ (flag s true h)
  answered s i f r _ room h :=
    weaken _ (K.finish choose (joined s _ _ room (by simpa using replies s i) (flag _ false (K.serveRequest h))))
  echoed s f _ room h := weaken _ (K.finish choose (joined s s f room rfl h))
  sent s h := by
    refine weaken _ ?_
    unfold State.frameSent
    dsimp only
    split
    · exact blank _ _ (sending _ h)
    · exact choose _ (sending _ h)
  powerLost s h := weaken _ (blank s _ h)
  loaded s _ _ h := weaken _ (loaded s h)
  scanStarted s h := weaken _ (K.finish choose (K.scanner s _ rfl h))
  scanned s scan reads _ h := scanned s scan reads h
  timer s n e _ h := weaken _ (K.finish choose (K.expireTimer h))
  pulse s o e _ h := weaken _ (K.finish choose (K.endPulse h))
  window s o e _ h := weaken _ (K.finish choose (K.endWindow h))
  gap s k op e slot h := by
    refine weaken _ (K.finish choose ?_)
    unfold State.endGap
    rw [slot]
    exact K.stepDue h
  watch s k op e _ h := weaken _ (K.finish choose (K.endOperation h))
  stored s x h := weaken _ (K.store s x h)

/-! ### The reply queue -/

/-- The journal, the press unit and the owners of requests leave the reply queue alone. -/
theorem replies_keptByOwners (rs : List Frame) : KeptByOwners (fun s => s.link.replies = rs) where
  outputs _ _ := id
  slot _ _ _ _ := id
  watch _ _ _ _ := id
  dirty _ _ _ := id
  permit _ _ _ := id
  queue _ _ := id
  objects _ _ := id
  modulePending _ _ _ := id
  outputPending _ _ _ := id
  append _ _ _ _ _ := id
  drop _ _ _ := id
  scanner _ _ _ := id
  contacts _ _ := id
  profile _ _ _ := id
  flash _ _ _ := id
  index _ _ := id
  inhibit _ _ := id
  store _ _ := id
  switches _ _ _ _ := id
  redefined _ _ _ := id

@[simp] theorem serveRequest_replies (s : State) (i : Instr) : (serveRequest i s).1.link.replies = s.link.replies :=
  (replies_keptByOwners s.link.replies).serveRequest rfl

end Sys2Proof.Machine
end

section
/-! PROOFS. The bounds of the lanes and of the reply queue (R98, R153), and the records of objects before RUNNING
(R101). -/

namespace Sys2Proof.Machine

/-! ### The lanes -/

theorem lanesBounded_keptByOwners : KeptByOwners LanesBounded :=
  { lanesBounded_kept.toKept with
    drop := lanesBounded_kept.drop
    scanner := fun _ _ _ => id
    contacts := fun _ _ => id
    profile := fun _ _ _ => id
    flash := fun _ _ _ => id
    index := fun _ _ => id
    inhibit := fun _ _ => id
    store := fun _ _ => id
    switches := fun _ _ _ _ => id
    redefined := fun _ _ _ => id }

theorem lanesBounded_blank (s : State) (p : Power) : LanesBounded (s.blocksBlank.setPower p) := by
  intro l
  cases l <;> exact Nat.zero_le _

theorem lanesBounded_eventsLead : EventsLead LanesBounded LanesBounded :=
  lanesBounded_keptByOwners.eventsLead (fun _ => lanesBounded_kept.chooseFrame) (fun _ _ _ => id) (fun _ _ => id)
    (fun _ _ => id) (fun _ _ _ _ _ => id) (fun _ => id) (fun s p _ => lanesBounded_blank s p) (fun _ => id)
    serveRequest_replies (fun _ => id)
    (fun _ _ _ h => lanesBounded_kept.finish (lanesBounded_keptByOwners.completeScan (fun _ => id) h))

/-! ### The reply queue -/

theorem repliesBounded_keptByOwners : KeptByOwners RepliesBounded where
  outputs _ _ := id
  slot _ _ _ _ := id
  watch _ _ _ _ := id
  dirty _ _ _ := id
  permit _ _ _ := id
  queue _ _ := id
  objects _ _ := id
  modulePending _ _ _ := id
  outputPending _ _ _ := id
  append _ _ _ _ _ := id
  drop _ _ _ := id
  scanner _ _ _ := id
  contacts _ _ := id
  profile _ _ _ := id
  flash _ _ _ := id
  index _ _ := id
  inhibit _ _ := id
  store _ _ := id
  switches _ _ _ _ := id
  redefined _ _ _ := id

theorem State.startReport_replies (s : State) (l : Lane) : (s.startReport l).link.replies = s.link.replies :=
  (replies_keptByOwners s.link.replies).refill ((replies_keptByOwners s.link.replies).drop s l _ rfl)

/-- The transmitter takes at most one reply from the queue (R155). -/
theorem State.chooseFrame_replies (s : State) :
    s.chooseFrame.link.replies = s.link.replies ∨ s.chooseFrame.link.replies = s.link.replies.tail := by
  unfold State.chooseFrame
  split
  · exact .inl rfl
  · split
    next f fs queued => exact .inr (by rw [queued]; rfl)
    · split
      · split
        · exact .inl (s.startReport_replies _)
        · split
          · exact .inl (s.startReport_replies _)
          · exact .inl rfl
      · exact .inl rfl

theorem repliesBounded_chooseFrame {s : State} (h : RepliesBounded s) : RepliesBounded s.chooseFrame := by
  unfold RepliesBounded at *
  obtain e | e := s.chooseFrame_replies
  · rw [e]
    exact h
  · rw [e, List.length_tail]
    omega

/-- A frame joins the reply queue only where fewer than 4 wait (R151, R153). -/
theorem repliesBounded_enqueue {s t : State} (f : Frame) (room : s.repliesFull = false)
    (same : t.link.replies = s.link.replies) : RepliesBounded (t.enqueue f) := by
  have fewer : s.link.replies.length < Config.replyPlaces := by simpa [State.repliesFull] using room
  simp only [RepliesBounded, State.enqueue_link, List.length_append, List.length_singleton, same]
  omega

theorem repliesBounded_blank (s : State) (p : Power) : RepliesBounded (s.blocksBlank.setPower p) := Nat.zero_le _

theorem repliesBounded_eventsLead : EventsLead RepliesBounded RepliesBounded :=
  repliesBounded_keptByOwners.eventsLead (fun _ => repliesBounded_chooseFrame) (fun _ _ _ => id) (fun _ _ => id)
    (fun _ _ => id) (fun _ _ f room same _ => repliesBounded_enqueue f room same) (fun _ => id)
    (fun s p _ => repliesBounded_blank s p) (fun _ => id) serveRequest_replies (fun _ => id)
    (fun _ _ _ h => repliesBounded_keptByOwners.finish (fun _ => repliesBounded_chooseFrame)
      (repliesBounded_keptByOwners.completeScan (fun _ => id) h))

/-- Settles O56: every event keeps either bound, since records enter a free place alone and frames a queue with room. -/
theorem queuesStayBounded : Obligations.QueuesStayBounded := fun _ _ lanes replies run =>
  ⟨lanesBounded_eventsLead.step (fun _ _ => id) (fun s _ _ => lanesBounded_blank s (.loading 0)) lanes run,
    repliesBounded_eventsLead.step (fun _ _ => id) (fun s _ _ => repliesBounded_blank s (.loading 0)) replies run⟩

/-! ### Records of objects before RUNNING -/

/-- The part is not RUNNING, and its lanes hold no record of an object but some of the youngest of `s`. -/
def Unreported (s t : State) : Prop := t.scanner.part ≠ .running ∧ ∀ l, t.objectRecords l <:+ s.objectRecords l

theorem State.objectRecords_append_self (s : State) (l : Lane) (r : Record) :
    (s.append l r).objectRecords l = s.objectRecords l ++ if r.ofObject then [r] else [] := by
  simp [State.objectRecords, List.filter_cons]

theorem State.lane_append_ne {l m : Lane} (s : State) (r : Record) (h : m ≠ l) : (s.append l r).lane m = s.lane m := by
  cases l <;> cases m <;> simp at h <;> rfl

theorem State.lane_dropRecords_self (s : State) (l : Lane) (n : Nat) : (s.dropRecords l n).lane l =
    (s.lane l).drop n := by
  cases l <;> rfl

theorem State.lane_dropRecords_ne {l m : Lane} (s : State) (n : Nat) (h : m ≠ l) :
    (s.dropRecords l n).lane m = s.lane m := by
  cases l <;> cases m <;> simp at h <;> rfl

/-- Only the oldest records leave a lane. -/
theorem State.objectRecords_dropRecords (s : State) (l m : Lane) (n : Nat) :
    (s.dropRecords l n).objectRecords m <:+ s.objectRecords m := by
  unfold State.objectRecords
  by_cases e : m = l
  · subst e
    rw [State.lane_dropRecords_self]
    exact (List.drop_suffix n _).filter _
  · rw [State.lane_dropRecords_ne s n e]

theorem unreported_append {s t : State} {l : Lane} {r : Record} (object : r.ofObject = true → t.running = true)
    (h : Unreported s t) : Unreported s (t.append l r) := by
  obtain ⟨rest, kept⟩ := h
  have other : r.ofObject = false := by
    by_contra yes
    exact rest (by simpa [State.running] using object (by simpa using yes))
  refine ⟨rest, fun m => ?_⟩
  by_cases e : m = l
  · subst e
    simpa [State.objectRecords_append_self, other] using kept m
  · simpa [State.objectRecords, State.lane_append_ne t r e] using kept m

theorem unreported_keptByLink (s : State) : KeptByLink (Unreported s) where
  outputs _ _ := id
  slot _ _ _ _ := id
  watch _ _ _ _ := id
  dirty _ _ _ := id
  permit _ _ _ := id
  queue _ _ := id
  objects _ _ := id
  modulePending _ _ _ h := ⟨h.1, fun l => by simpa [State.objectRecords] using h.2 l⟩
  outputPending _ _ _ h := ⟨h.1, fun l => by simpa [State.objectRecords] using h.2 l⟩
  append _ _ _ _ object h := unreported_append object h
  link _ _ := id
  drop t l n h := ⟨h.1, fun m => (t.objectRecords_dropRecords l m n).trans (h.2 m)⟩

theorem unreported_keptByOwners (s : State) : KeptByOwners (Unreported s) :=
  { (unreported_keptByLink s).toKept with
    drop := (unreported_keptByLink s).drop
    scanner := fun _ _ part h => ⟨fun run => h.1 (part.symm.trans run), h.2⟩
    contacts := fun _ _ => id
    profile := fun _ _ _ => id
    flash := fun _ _ _ => id
    index := fun _ _ => id
    inhibit := fun _ _ => id
    store := fun _ _ => id
    switches := fun _ _ _ _ => id
    redefined := fun _ _ part h => ⟨part, h.2⟩ }

theorem unreported_blank (s t : State) (p : Power) : Unreported s (t.blocksBlank.setPower p) :=
  ⟨fun h => absurd h (by simp [State.blocksBlank, Scanner.blank]), fun l => by
    cases l <;> exact List.nil_suffix⟩

theorem unreported_load {s t : State} (h : Unreported s t) : Unreported s t.completeLoad := by
  refine ⟨?_, h.2⟩
  simp only [State.completeLoad, State.setPower_scanner, State.applyContents, loadScanner]
  split <;> simp

theorem State.finish_scanner (b s : State) : (State.finish b s).scanner = s.scanner :=
  ((sameGround_kept s).finish (SameGround.refl s)).scanner

theorem State.markAll_scanner (s : State) : s.markAll.scanner = s.scanner :=
  ((sameGround_kept s).markAll (SameGround.refl s)).scanner

/-- A completion gains no record of an object, or it is the one that enters RUNNING (R17, R109). -/
theorem unreported_completeScan {s b t : State} (scan : Scan) (reads : List ModuleRead) (h : Unreported s t) :
    (State.finish b (t.completeScan scan reads)).scanner.part ≠ .running →
      ∀ l, (State.finish b (t.completeScan scan reads)).objectRecords l <:+ s.objectRecords l := by
  rw [State.finish_scanner]
  unfold State.completeScan State.judgeAcquisition
  dsimp only
  split
  · intro rest
    rw [State.markAll_scanner] at rest
    exact absurd rfl rest
  · exact fun _ => ((unreported_keptByLink s).finish ((unreported_keptByOwners s).scanApplied h)).2

theorem unreported_eventsLead (s : State) : EventsLead (Unreported s)
    (fun t => t.scanner.part ≠ .running → ∀ l, t.objectRecords l <:+ s.objectRecords l) :=
  (unreported_keptByOwners s).eventsLead (fun _ => (unreported_keptByLink s).chooseFrame) (fun _ _ _ => id)
    (fun _ _ => id) (fun _ _ => id) (fun _ _ _ _ _ => id) (fun _ => id) (fun t p _ => unreported_blank s t p)
    (fun _ => unreported_load) serveRequest_replies (fun _ h _ => h.2)
    (fun _ scan reads h => unreported_completeScan scan reads h)

/-- Settles O60: before RUNNING no record of an object is admitted or refilled, and the one event that leads into
RUNNING leaves the premise. -/
theorem noObjectRecordsBeforeRunning : Obligations.NoObjectRecordsBeforeRunning := fun s _ rest run rest' =>
  (unreported_eventsLead s).step (fun _ _ => id) (fun t _ _ _ => (unreported_blank s t (.loading 0)).2)
    ⟨rest, fun _ => List.suffix_rfl⟩ run rest'

end Sys2Proof.Machine
end

section
/-! PROOFS. The object table: what journal, press unit, link and scanner leave of it, what one resolution makes of a
record, and how a property of the objects is kept by every event. -/

namespace Sys2Proof.Machine

/-! ### What leaves the objects alone -/

/-- The object records of `s` but for their dirty marks, its reverse index and its contacts stand in `t`. -/
structure SameObjects (s t : State) : Prop where
  objects : ∀ n, (s.object n).sameState (t.object n)
  index : t.table.index = s.table.index
  contacts : t.filter.contacts = s.filter.contacts

theorem SameObjects.refl (s : State) : SameObjects s s := ⟨fun _ => rfl, rfl, rfl⟩

theorem SameObjects.trans {a b c : State} (h : SameObjects a b) (k : SameObjects b c) : SameObjects a c :=
  ⟨fun n => (h.objects n).trans (k.objects n), k.index.trans h.index, k.contacts.trans h.contacts⟩

theorem SameRelays.sameObjects {s t : State} (h : SameRelays s t) : SameObjects s t :=
  ⟨h.objects, h.index, by rw [h.filter]⟩

/-- Blocks other than the object table and the contacts may change. -/
theorem SameObjects.of_table {s t : State} (table : t.table = s.table)
    (contacts : t.filter.contacts = s.filter.contacts) : SameObjects s t :=
  ⟨fun n => by unfold State.object; rw [table]; rfl, by rw [table], contacts⟩

/-- The operations of journal and press unit leave the objects alone. -/
theorem sameObjects_kept (s : State) : KeptByPress (SameObjects s) where
  outputs _ _ h := ⟨h.1, h.2, h.3⟩
  slot _ _ _ _ h := ⟨h.1, h.2, h.3⟩
  watch _ _ _ _ h := ⟨h.1, h.2, h.3⟩
  dirty t n m h := h.trans (SameRelays.of_dirty t n m).sameObjects
  permit _ _ _ h := ⟨h.1, h.2, h.3⟩
  queue _ _ h := ⟨h.1, h.2, h.3⟩
  modulePending _ _ _ h := ⟨h.1, h.2, h.3⟩
  outputPending _ _ _ h := ⟨h.1, h.2, h.3⟩
  append _ _ _ _ _ h := ⟨h.1, h.2, h.3⟩

/-! ### One resolution -/

/-- The presented state a resolution gives (R74 step 2). -/
def KindOutcome.presents (k : KindOutcome) (o : ObjectRecord) (old : Presented) (stamp : Stamp) : Presented :=
  ⟨k.code, k.aspect,
    { k.attrs with latched := (nextLatch o.latch old.code k.code (recordedStamp o.lastStamp stamp)).isSome }⟩

section Record

variable (n : Nat) (cause : ChangeCause) (stamp : Stamp) (o : ObjectRecord) (d : Definition) (old : Presented)
  (k : KindOutcome)

/-- A resolution writes timer, latch, presented state and last stamp, and these alone. -/
theorem resolveRecord_service : (resolveRecord n cause stamp o d old k).1.service = o.service := by
  unfold resolveRecord
  dsimp only
  split <;> rfl

theorem resolveRecord_definition : (resolveRecord n cause stamp o d old k).1.definition = o.definition := by
  unfold resolveRecord
  dsimp only
  split <;> rfl

theorem resolveRecord_dirty : (resolveRecord n cause stamp o d old k).1.dirty = o.dirty := by
  unfold resolveRecord
  dsimp only
  split <;> rfl

theorem resolveRecord_timer :
    (resolveRecord n cause stamp o d old k).1.timer = nextTimer k.timer o.timer (stamp + d.timing) := by
  unfold resolveRecord
  dsimp only
  split <;> rfl

/-- A record whose presented state stays gives no change (R74). -/
theorem resolveRecord_of_same (same : k.presents o old stamp = old) :
    resolveRecord n cause stamp o d old k =
      ({ o with timer := nextTimer k.timer o.timer (stamp + d.timing) }, none) := by
  unfold resolveRecord
  exact if_pos same

/-- A record whose presented state changes is stamped, latched and handed on (R74). -/
theorem resolveRecord_of_changed (changed : k.presents o old stamp ≠ old) :
    resolveRecord n cause stamp o d old k =
      ({ o with
          timer := nextTimer k.timer o.timer (stamp + d.timing)
          latch := nextLatch o.latch old.code k.code (recordedStamp o.lastStamp stamp)
          presented := some (k.presents o old stamp)
          lastStamp := some (recordedStamp o.lastStamp stamp) },
        some ⟨n, k.presents o old stamp, cause, recordedStamp o.lastStamp stamp,
          changeLane d.urgency old.code k.code⟩) := by
  unfold resolveRecord
  exact if_neg changed

variable {o old}

theorem resolveRecord_presented (held : o.presented = some old) :
    (resolveRecord n cause stamp o d old k).1.presented = some (k.presents o old stamp) := by
  by_cases same : k.presents o old stamp = old
  · rw [resolveRecord_of_same n cause stamp o d old k same, same]
    exact held
  · rw [resolveRecord_of_changed n cause stamp o d old k same]

end Record

theorem State.resolve_of_serving {s : State} {n : Nat} {d : Definition} {old : Presented}
    (service : (s.object n).service = .inService) (definition : (s.object n).definition = some d)
    (presented : (s.object n).presented = some old) (cause : ChangeCause) (stamp : Stamp) (expired : Bool) :
    s.resolve n cause stamp expired =
      ((s.setObject n (resolveRecord n cause stamp (s.object n) d old (s.rule d old expired)).1).handOn
          (resolveRecord n cause stamp (s.object n) d old (s.rule d old expired)).2,
        (resolveRecord n cause stamp (s.object n) d old (s.rule d old expired)).2) := by
  simp [State.resolve, service, definition, presented]

/-- Object n is resolved where it is in service and whole; otherwise nothing happens (R71). -/
theorem State.resolve_cases (s : State) (n : Nat) (cause : ChangeCause) (stamp : Stamp) (expired : Bool) :
    ((s.resolve n cause stamp expired = (s, none)) ∧ ¬ ((s.object n).service = .inService ∧
      (∃ d, (s.object n).definition = some d) ∧ ∃ old, (s.object n).presented = some old)) ∨
    ∃ d old, (s.object n).service = .inService ∧ (s.object n).definition = some d ∧
      (s.object n).presented = some old ∧ s.resolve n cause stamp expired =
        ((s.setObject n (resolveRecord n cause stamp (s.object n) d old (s.rule d old expired)).1).handOn
            (resolveRecord n cause stamp (s.object n) d old (s.rule d old expired)).2,
          (resolveRecord n cause stamp (s.object n) d old (s.rule d old expired)).2) := by
  by_cases whole : (s.object n).service = .inService ∧
      (∃ d, (s.object n).definition = some d) ∧ ∃ old, (s.object n).presented = some old
  · obtain ⟨service, ⟨d, definition⟩, ⟨old, presented⟩⟩ := whole
    exact .inr ⟨d, old, service, definition, presented, State.resolve_of_serving service definition presented _ _ _⟩
  · refine .inl ⟨?_, whole⟩
    unfold State.resolve
    split
    · exact absurd ⟨‹_›, ⟨_, ‹_›⟩, ⟨_, ‹_›⟩⟩ whole
    · rfl

theorem State.handOn_sameObjects (s : State) (c : Option Change) : SameObjects s (s.handOn c) := by
  unfold State.handOn
  split
  · exact .refl s
  · exact (sameObjects_kept s).handChange (.refl s)

/-! ### How a property of the objects is kept -/

/-- A property of the objects, kept by all that changes them. -/
structure KeptByObjects (P : State → Prop) : Prop where
  same : ∀ s t, SameObjects s t → P s → P t
  resolved : ∀ s n cause stamp expired, P s → P (s.resolve n cause stamp expired).1
  stopped : ∀ s n, P s → P (s.setObject n { s.object n with timer := none })
  batch : ∀ s time news, news.length = s.filter.contacts.length → P s →
    P ((s.setContacts (news.map Prod.fst)).resolveBatch (batchEntries time 0 s.filter.contacts news)).1
  cleared : ∀ s cs, s.inUse = false → P s → P (s.setContacts cs)
  defined : ∀ s n d, (s.object n).service ≠ .inService → P s → P (s.setObject n (Definition.record d))
  removed : ∀ s n, (s.object n).service = .outOfService → P s → P (s.setObject n .undefined)
  taken : ∀ s n d stamp, (s.object n).service = .outOfService → (s.object n).definition = some d → P s →
    P (((s.setObject n { s.object n with service := .inService }).setIndex (enterIndex n d s.table.index)).resolve n
      .service stamp false).1
  out : ∀ s n, (s.object n).service = .inService → P s →
    P ((s.setObject n ((s.object n).takenOut s.time)).setIndex (leaveIndex n s.table.index))
  unlatched : ∀ s n p, (s.object n).presented = some p → P s → P (s.setObject n ((s.object n).unlatched p s.time))
  blank : ∀ (s : State) p, P (s.blocksBlank.setPower p)
  loaded : ∀ s : State, P s.completeLoad

namespace KeptByObjects

variable {P : State → Prop} (K : KeptByObjects P)
include K

theorem table {s t : State} (h : P s) (table : t.table = s.table)
    (contacts : t.filter.contacts = s.filter.contacts) : P t := K.same s t (.of_table table contacts) h

theorem handToPress {s : State} {cs : List Change} (h : P s) : P (s.handToPress cs) :=
  K.same s _ ((sameObjects_kept s).handToPress (.refl s)) h

/-- The contacts change with their batch. -/
theorem applyBatch {s : State} {time : Stamp} {news : List (Contact × Option Stamp)}
    (length : news.length = s.filter.contacts.length) (h : P s) :
    P ((s.setContacts (news.map Prod.fst)).applyBatch (batchEntries time 0 s.filter.contacts news)) :=
  K.same _ _ ((sameObjects_kept _).judgeReadbacks (.refl _)) (K.handToPress (K.batch s time news length h))

theorem changeContacts {s : State} {cs : List Contact} (length : cs.length = s.filter.contacts.length) (h : P s) :
    P (s.changeContacts cs) := by
  have fst : (cs.map (fun c => (c, (none : Option Stamp)))).map Prod.fst = cs := by
    rw [List.map_map]
    exact List.map_id cs
  have := K.applyBatch (time := s.time) (news := cs.map (fun c => (c, none))) (by simpa using length) h
  rw [fst] at this
  exact this

theorem expireTimer {s : State} {n : Nat} {e : Stamp} (h : P s) : P (s.expireTimer n e) :=
  K.handToPress (K.resolved _ n .timer e true (K.stopped s n h))

theorem handAlone {s : State} {c : Change} (h : P s) : P (s.handAlone c) :=
  K.handToPress (K.same s _ ((sameObjects_kept s).handChange (.refl s)) h)

theorem chooseFrame {s : State} (h : P s) : P s.chooseFrame := K.same s _ s.chooseFrame_sameRelays.sameObjects h

theorem endOperation {s : State} {k : Nat} {rep : EndReport} (h : P s) : P (s.endOperation k rep) :=
  K.same s _ ((sameObjects_kept s).endOperation (.refl s)) h

theorem handModules {s : State} {is : List ModuleItem} (h : P s) : P (s.handModules is) :=
  K.same s _ ((sameObjects_kept s).handModules (.refl s)) h

theorem finish {before s : State} (h : P s) : P (State.finish before s) := by
  have objects : ∀ (u : State) (n : Nat), P u → P (State.expireAtOnce before u n) := by
    intro u n hu
    unfold State.expireAtOnce
    split
    · exact hu
    · split
      · exact K.chooseFrame (K.expireTimer hu)
      · exact hu
  have slots : ∀ (u : State) (k : Nat), P u → P (State.endZeroWatch before u k) := by
    intro u k hu
    unfold State.endZeroWatch
    split
    · split
      · exact K.chooseFrame (K.endOperation hu)
      · exact hu
    · exact hu
  exact kept_foldl slots _ (kept_foldl objects _ (K.chooseFrame h))

theorem markAll {s : State} (h : P s) : P s.markAll := by
  have marked : SameObjects s (s.setObjects (s.table.objects.map (·.marked))) := by
    refine ⟨fun n => ?_, rfl, rfl⟩
    simp only [State.object, State.setObjects_table, List.getD_eq_getElem?_getD, List.getElem?_map]
    cases s.table.objects[n]? with
    | none => exact ObjectRecord.sameState_refl _
    | some o =>
      simp only [Option.map_some, Option.getD_some, ObjectRecord.marked]
      split
      · split
        · rfl
        · split <;> rfl
      · rfl
  exact K.same _ _ ((sameObjects_kept _).refillBoth (.refl _)) (K.same s _ marked h)

theorem judgeAcquisition {s : State} {t : Stamp} (h : P s) : P (s.judgeAcquisition t) := by
  unfold State.judgeAcquisition
  split
  · exact K.markAll (K.table (K.handModules h) rfl rfl)
  · exact h

theorem completeScan {s : State} {scan : Scan} {reads : List ModuleRead} (h : P s) : P (s.completeScan scan reads) := by
  unfold State.completeScan
  dsimp only
  refine K.judgeAcquisition ?_
  generalize s.scanner.modules.map (completeModule s.scanner.tolerance scan reads) = outcomes
  have start : SameObjects s (s.setScanner (s.scanner.afterScan scan outcomes)) := .of_table rfl rfl
  have applied : SameObjects s ((s.setScanner (s.scanner.afterScan scan outcomes)).handModules
      (outcomes.filterMap (·.item))) := (sameObjects_kept s).handModules start
  rw [← applied.contacts]
  exact K.applyBatch (by simp [State.filterContacts, applied.contacts]) (K.same s _ applied h)

theorem served {i : Instr} {s t : State} (h : P s) (v : Served i s t) : P t := by
  have press : KeptByPress (SameObjects s) := sameObjects_kept s
  cases v with
  | same => exact h
  | mode | hold | scanSet | moduleUnlatched | enabled | saving | restarting | outputDefined =>
    exact K.table h rfl rfl
  | fetched u r =>
    have dropped : SameRelays s ((s.dropRecords .urgent u).dropRecords .routine r) :=
      (s.dropRecords_sameRelays _ _).trans (State.dropRecords_sameRelays _ _ _)
    refine K.same s _ ?_ h
    unfold State.fetched State.refillTaken
    split <;> split
    · exact dropped.sameObjects
    · exact press.refill dropped.sameObjects
    · exact press.refill dropped.sameObjects
    · exact press.refill (press.refill dropped.sameObjects)
  | synced => exact K.markAll h
  | modulesDefined map unused => exact K.cleared _ _ unused (K.table (t := s.setScanner _) h rfl rfl)
  | moduleOut slot =>
    have handed : SameObjects s ((s.setScanner ((s.scanner.setModule slot .takenOut).discard slot)).handModule
        ⟨slot, .outOfService, none, s.time⟩) := press.handModule (.of_table rfl rfl)
    have stood := K.same s _ handed h
    have := K.changeContacts (cs := loseSlot s.scanner.modules slot s.filter.contacts)
      (by simp [loseSlot, handed.contacts]) stood
    unfold State.changeContacts at this
    rw [handed.contacts, ((sameGround_kept (s.setScanner _)).handModule (.refl _)).time] at this
    exact this
  | moduleIn slot => exact K.same s _ (press.handModule (.of_table rfl rfl)) h
  | profileDefined p new => exact K.changeContacts (by simp [reprofile]) (K.table (t := s.setProfile p new) h rfl rfl)
  | profileAssigned first last p => exact K.changeContacts (by simp [State.assign]) h
  | flashDefined p new =>
    unfold State.defineFlash
    split
    · exact h
    · dsimp only
      exact K.changeContacts (by simp) (K.table (t := s.setFlash p new) h rfl rfl)
  | objectDefined n d resting => exact K.defined s n d resting h
  | objectRemoved n resting => exact K.removed s n resting h
  | objectIn n d range resting definition => exact K.handToPress (K.taken s n d _ resting definition h)
  | objectOut n serving => exact K.handAlone (K.out s n serving h)
  | objectUnlatched n p defined presented => exact K.handAlone (K.unlatched s n p presented h)
  | outputCleared o => exact K.same s _ (press.handOutput (.of_table rfl rfl)) h
  | pressed k op => exact K.same s _ (press.stepDue (.of_table rfl rfl)) h
  | aborted k => exact K.endOperation h
  | inhibited =>
    refine kept_foldl (P := P) (fun u k hu => ?_) _ (K.table (t := s.setInhibit true) h rfl rfl)
    unfold State.inhibitSlot
    split
    · exact K.endOperation hu
    · exact hu

/-- A property of the objects is kept by every event. -/
theorem eventsLead : EventsLead P P where
  still _ h := h
  later _ _ _ h := K.table h rfl rfl
  receiver _ _ h := K.table h rfl rfl
  dropped _ h := K.table h rfl rfl
  answered s i f r _ _ h := K.finish (K.table (K.served h (served_serveRequest s i)) rfl rfl)
  echoed s f _ _ h := K.finish (K.table h rfl rfl)
  sent s h := by
    unfold State.frameSent
    dsimp only
    split
    · exact K.blank _ _
    · exact K.chooseFrame (K.table h rfl rfl)
  powerLost s _ := K.blank s _
  loaded s _ _ _ := K.loaded s
  scanStarted s h := K.finish (K.table h rfl rfl)
  scanned s scan reads _ h := K.finish (K.completeScan h)
  timer s n e _ h := K.finish (K.expireTimer h)
  pulse s o e _ h := K.finish (K.same s _ ((sameObjects_kept s).endPulse (.refl s)) h)
  window s o e _ h := K.finish (K.same s _ ((sameObjects_kept s).endWindow (.refl s)) h)
  gap s k op e slot h := by
    refine K.finish (K.same s _ ?_ h)
    unfold State.endGap
    rw [slot]
    exact (sameObjects_kept s).stepDue (.refl s)
  watch s k op e _ h := K.finish (K.endOperation h)
  stored s x h := K.table h rfl rfl

theorem step {s t : State} (h : P s) (run : Machine.step s = .next t) : P t :=
  K.eventsLead.step (fun _ _ hs => K.table hs rfl rfl) (fun s _ _ => K.table (K.blank s (.loading 0)) rfl rfl) h run

end KeptByObjects

end Sys2Proof.Machine
end

section
/-! PROOFS. The objects stay sound (R55, R77), and an object that references an UNKNOWN contact goes on presenting
UNKNOWN (R64, R75). -/

namespace Sys2Proof.Machine

/-! ### The timer of each rule (R77) -/

theorem trackRule_holds {clear : LevelView} {back : Option LevelView} {held : StateCode} {timing : Nat}
    {expired : Bool} (h : (trackRule clear back held timing expired).timer ≠ .cancel) :
    Kind.track.holds (trackRule clear back held timing expired).code := by
  unfold trackRule at *
  split at h <;> try exact absurd rfl h
  split at h <;> try exact absurd rfl h
  split at h <;> try exact absurd rfl h
  split at h
  · simp_all [Kind.holds]
  · exact absurd rfl h

theorem pointsRule_holds {normal reverse : LevelView} {lock : Option LevelView} {held : StateCode} {expired : Bool}
    (h : (pointsRule normal reverse lock held expired).timer ≠ .cancel) :
    Kind.points.holds (pointsRule normal reverse lock held expired).code := by
  unfold pointsRule at *
  dsimp only at *
  split at h
  · exact absurd rfl h
  · split at h
    · exact absurd rfl h
    · split at h
      · exact absurd rfl h
      · split at h
        · exact absurd rfl h
        · split at h
          · split at h
            · exact absurd rfl h
            · simp_all [Kind.holds]
          · simp_all [Kind.holds]

theorem signalRule_holds {lit : List (Nat × LampView)} {old : Presented} {timing : Nat} {expired : Bool}
    (h : (signalRule lit old timing expired).timer ≠ .cancel) :
    Kind.signal.holds (signalRule lit old timing expired).code := by
  unfold signalRule at *
  split at h
  · exact absurd rfl h
  · split at h
    · simp_all [Kind.holds]
    · split at h <;> exact absurd rfl h

theorem indicationRule_timer (v : LampView) : (indicationRule v).timer = .cancel := by
  cases v <;> rfl

theorem relayRule_holds {front back : LevelView} {held : StateCode} {expired : Bool}
    (h : (relayRule front back held expired).timer ≠ .cancel) :
    Kind.relay.holds (relayRule front back held expired).code := by
  unfold relayRule at *
  dsimp only at *
  split at h
  · exact absurd rfl h
  · split at h
    · exact absurd rfl h
    · split at h
      · exact absurd rfl h
      · split at h
        · simp_all [Kind.holds]
        · exact absurd rfl h

/-- UNKNOWN comes first in every kind (R75). -/
theorem State.rule_of_unknown {s : State} {d : Definition} (h : s.someUnknown d = true) (old : Presented)
    (expired : Bool) : s.rule d old expired = ⟨.unknown, none, .empty, .cancel⟩ := if_pos h

/-- A rule leaves a timer running only in a state its kind holds under it (R77). -/
theorem State.rule_holds {s : State} {d : Definition} {old : Presented} {expired : Bool}
    (h : (s.rule d old expired).timer ≠ .cancel) : d.kind.holds (s.rule d old expired).code := by
  by_cases unknown : s.someUnknown d = true
  · exact absurd (by rw [State.rule_of_unknown unknown]) h
  · unfold State.rule at *
    rw [if_neg unknown] at *
    cases kind : d.kind with
    | track =>
      rw [kind] at h
      exact trackRule_holds h
    | points =>
      rw [kind] at h
      exact pointsRule_holds h
    | signal =>
      rw [kind] at h
      exact signalRule_holds h
    | indication =>
      rw [kind] at h
      exact absurd (indicationRule_timer _) h
    | relay =>
      rw [kind] at h
      exact relayRule_holds h

/-! ### Sound records -/

/-- A record has what its service state asks for, its timer in a state that holds one, and LATCHED with its latch. -/
structure ObjectSound (o : ObjectRecord) : Prop where
  timer : o.timer ≠ none → o.service = .inService ∧
    ∃ d p, o.definition = some d ∧ o.presented = some p ∧ d.kind.holds p.code
  whole : o.service ≠ .undefined → o.definition ≠ none ∧ o.presented ≠ none
  latched : ∀ p, o.presented = some p → p.attrs.latched = o.latch.isSome

/-- Every object record is sound. -/
def ObjectsSound (s : State) : Prop := ∀ n, ObjectSound (s.object n)

theorem objectsSound_iff (s : State) : ObjectsSound s ↔ TimersHold s ∧ ObjectsWhole s :=
  ⟨fun h => ⟨fun n => (h n).timer, fun n => ⟨(h n).whole, (h n).latched⟩⟩,
    fun ⟨timers, whole⟩ n => ⟨timers n, (whole n).1, (whole n).2⟩⟩

theorem ObjectSound.of_sameState {a b : ObjectRecord} (same : a.sameState b) (h : ObjectSound a) : ObjectSound b where
  timer := by
    rw [same.timer, same.service, same.definition, same.presented]
    exact h.timer
  whole := by
    rw [same.service, same.definition, same.presented]
    exact h.whole
  latched := by
    rw [same.presented, same.latch]
    exact h.latched

/-- A record without a timer is sound where it is whole and its latch shows. -/
theorem ObjectSound.of_quiet {o : ObjectRecord} (quiet : o.timer = none)
    (whole : o.service ≠ .undefined → o.definition ≠ none ∧ o.presented ≠ none)
    (latched : ∀ p, o.presented = some p → p.attrs.latched = o.latch.isSome) : ObjectSound o :=
  ⟨fun running => absurd quiet running, whole, latched⟩

theorem objectSound_undefined : ObjectSound .undefined :=
  .of_quiet rfl (fun h => absurd rfl h) (fun _ h => absurd h (by simp [ObjectRecord.undefined]))

theorem ObjectsSound.setObject {s : State} {n : Nat} {o : ObjectRecord} (h : ObjectsSound s) (sound : ObjectSound o) :
    ObjectsSound (s.setObject n o) := by
  intro m
  rw [State.object_setObject]
  split
  · exact sound
  · exact h m

theorem nextLatch_eq (latch : Option ObjectLatch) (c : StateCode) (stamp : Stamp) : nextLatch latch c c stamp =
    latch := by
  unfold nextLatch
  cases latch <;> simp

/-- One resolution leaves a sound record sound (R74, R77, R90). -/
theorem ObjectSound.resolveRecord {n : Nat} {cause : ChangeCause} {stamp : Stamp} {o : ObjectRecord} {d : Definition}
    {old : Presented} {k : KindOutcome} (serving : o.service = .inService) (definition : o.definition = some d)
    (held : o.presented = some old) (timer : k.timer ≠ .cancel → d.kind.holds k.code) (h : ObjectSound o) :
    ObjectSound (resolveRecord n cause stamp o d old k).1 where
  timer running := by
    rw [resolveRecord_timer] at running
    rw [resolveRecord_service, resolveRecord_definition, resolveRecord_presented n cause stamp d k held]
    refine ⟨serving, d, _, definition, rfl, timer fun cancel => running ?_⟩
    rw [cancel]
    rfl
  whole _ := by
    rw [resolveRecord_definition, resolveRecord_presented n cause stamp d k held, definition]
    simp
  latched := by
    by_cases same : k.presents o old stamp = old
    · rw [resolveRecord_of_same n cause stamp o d old k same]
      exact h.latched
    · rw [resolveRecord_of_changed n cause stamp o d old k same]
      rintro p ⟨rfl⟩
      rfl

theorem ObjectsSound.resolve {s : State} {n : Nat} {cause : ChangeCause} {stamp : Stamp} {expired : Bool}
    (h : ObjectsSound s) : ObjectsSound (s.resolve n cause stamp expired).1 := by
  obtain ⟨e, -⟩ | ⟨d, old, serving, definition, held, e⟩ := s.resolve_cases n cause stamp expired
  · rw [e]
    exact h
  · rw [e]
    have resolved := h.setObject (n := n) ((h n).resolveRecord (n := n) (cause := cause) (stamp := stamp)
      (k := s.rule d old expired) serving definition held State.rule_holds)
    exact fun m => (resolved m).of_sameState ((State.handOn_sameObjects _ _).objects m)

/-- What each resolution keeps, the resolution of a batch keeps. -/
theorem State.resolveBatch_kept {P : State → Prop}
    (resolved : ∀ s n cause stamp expired, P s → P (s.resolve n cause stamp expired).1) {s : State}
    {entries : List BatchEntry} (h : P s) : P (s.resolveBatch entries).1 := by
  unfold State.resolveBatch
  generalize hitsOf s.table.index entries = hits
  generalize List.range s.table.objects.length = ns
  have folds : ∀ acc : State × List Change, P acc.1 → P (ns.foldl (State.resolveHits hits) acc).1 := by
    induction ns with
    | nil => exact fun _ hacc => hacc
    | cons n ns ih =>
      intro acc hacc
      refine ih _ ?_
      unfold State.resolveHits
      split
      · exact hacc
      · exact resolved _ _ _ _ _ hacc
  exact folds _ h

theorem ObjectSound.of_loaded (o : Option StoredObject) : ObjectSound (loadObject o) := by
  cases o with
  | none => exact objectSound_undefined
  | some o =>
    unfold loadObject
    dsimp only
    split
    · exact .of_quiet rfl (fun _ => by simp) (by rintro p ⟨rfl⟩; rfl)
    · exact .of_quiet rfl (fun _ => by simp) (by rintro p ⟨rfl⟩; rfl)

theorem State.object_blank (s : State) (p : Power) (n : Nat) : (s.blocksBlank.setPower p).object n = .undefined := by
  simp only [State.object, State.setPower_table, State.blocksBlank, ObjectTable.blank, List.getD_eq_getElem?_getD,
    List.getElem?_replicate]
  split <;> rfl

/-- The contents the load applies (R177). -/
def State.loads (s : State) : ImageContents := loadedContents s.store.image s.straps.storeIgnore

/-- Every object after the load comes from its entry of the contents; beyond them there is none (R70). -/
theorem State.object_completeLoad (s : State) (n : Nat) :
    s.completeLoad.object n = loadObject (s.loads.objects[n]?.getD none) := by
  simp only [State.object, State.completeLoad, State.setPower_table, State.applyContents, List.getD_eq_getElem?_getD,
    List.getElem?_map, State.loads]
  cases (loadedContents s.store.image s.straps.storeIgnore).objects[n]? <;> rfl

theorem loadObject_serving {x : Option StoredObject} (h : (loadObject x).service = .inService) :
    ∃ o, x = some o ∧ o.inService = true ∧ (loadObject x).definition = some o.definition ∧
      (loadObject x).presented = some (.plain .unknown) := by
  cases x with
  | none => exact nomatch h
  | some o =>
    unfold loadObject at *
    dsimp only at *
    split at h
    next serving =>
      rw [if_pos serving]
      exact ⟨o, rfl, serving, rfl, rfl⟩
    · exact nomatch h

theorem objectsSound_kept : KeptByObjects ObjectsSound where
  same _ _ same h n := (h n).of_sameState (same.objects n)
  resolved _ _ _ _ _ h := h.resolve
  stopped s n h := h.setObject (.of_quiet rfl (h n).whole (h n).latched)
  batch s time news _ h := State.resolveBatch_kept (fun _ _ _ _ _ hu => hu.resolve) h
  cleared _ _ _ h := h
  defined s n d _ h := h.setObject (.of_quiet rfl (fun _ => by simp [Definition.record]) (by rintro p ⟨rfl⟩; rfl))
  removed s n _ h := h.setObject objectSound_undefined
  taken s n d stamp resting definition h := by
    have defined : (s.object n).service ≠ .undefined := by simp [resting]
    have quiet : (s.object n).timer = none := by
      by_contra running
      simp [(h n).timer running |>.1] at resting
    have sound := h.setObject (n := n) (o := { s.object n with service := .inService })
      (.of_quiet quiet (fun _ => (h n).whole defined) (h n).latched)
    exact ObjectsSound.resolve (s := (s.setObject n _).setIndex _) sound
  out s n serving h := by
    have defined := ((h n).whole (by simp [serving])).1
    exact h.setObject (n := n) (.of_quiet rfl (fun _ => ⟨defined, by simp [ObjectRecord.takenOut]⟩)
      (by rintro p ⟨rfl⟩; rfl))
  unlatched s n p presented h := by
    refine h.setObject ⟨fun running => ?_, fun defined => ⟨((h n).whole defined).1, by simp [ObjectRecord.unlatched]⟩,
      by rintro q ⟨rfl⟩; rfl⟩
    obtain ⟨serving, d, q, definition, held, holds⟩ := (h n).timer running
    obtain rfl : q = p := by simpa [presented] using held.symm
    exact ⟨serving, d, _, definition, rfl, holds⟩
  blank s p n := by
    rw [State.object_blank]
    exact objectSound_undefined
  loaded s n := by
    rw [State.object_completeLoad]
    exact .of_loaded _

/-- Settles O57: timers and latches are sound record by record, and every event keeps each record sound. -/
theorem objectsStaySound : Obligations.ObjectsStaySound := fun s t timers whole run =>
  (objectsSound_iff t).mp (objectsSound_kept.step ((objectsSound_iff s).mpr ⟨timers, whole⟩) run)

/-! ### Batch entries (R35) -/

/-- A contact of the batch's lists has its entry where its accepted level or a view differs. -/
theorem mem_batchEntries {time : Stamp} {e : BatchEntry} {first : Nat} {olds : List Contact}
    {news : List (Contact × Option Stamp)} : e ∈ batchEntries time first olds news ↔
      ∃ n old new stamp, olds[n]? = some old ∧ news[n]? = some (new, stamp) ∧
        batchEntry (first + n) old new (stamp.getD time) = some e := by
  induction olds generalizing first news with
  | nil => simp [batchEntries]
  | cons old olds ih =>
    cases news with
    | nil => simp [batchEntries]
    | cons new news =>
      obtain ⟨new, stamp⟩ := new
      simp only [batchEntries, List.mem_append, Option.mem_toList, ih]
      constructor
      · rintro (h | ⟨n, a, b, c, ha, hb, h⟩)
        · exact ⟨0, old, new, stamp, rfl, rfl, h⟩
        · exact ⟨n + 1, a, b, c, ha, hb, by rw [← h]; congr 1; omega⟩
      · rintro ⟨n, a, b, c, ha, hb, h⟩
        cases n with
        | zero =>
          obtain rfl : old = a := by simpa using ha
          obtain ⟨rfl, rfl⟩ : new = b ∧ stamp = c := by simpa using hb
          exact .inl h
        | succ n => exact .inr ⟨n, a, b, c, by simpa using ha, by simpa using hb, by rw [← h]; congr 1; omega⟩

theorem levelView_eq_unknown {c : Contact} {inverted : Bool} : levelView c inverted = .unknown ↔ c.accepted = none := by
  cases h : c.accepted with
  | none => simp [levelView_of_unknown h]
  | some l =>
    simp only [levelView, h, reduceCtorEq, iff_false]
    split
    · simp
    · split <;> simp

theorem lampView_eq_unknown {c : Contact} {inverted : Bool} : lampView c inverted = .unknown ↔ c.accepted = none := by
  cases h : c.accepted with
  | none => simp [lampView_of_unknown h]
  | some l =>
    simp only [lampView, h, reduceCtorEq, iff_false]
    split
    · simp
    · simp
    · split
      · simp
      · split <;> simp

/-- A contact that loses its level changes both its views (R33 to R35). -/
theorem batchEntry_of_lost {n : Nat} {old new : Contact} {stamp : Stamp} (known : old.accepted ≠ none)
    (lost : new.accepted = none) : ∃ e, batchEntry n old new stamp = some e ∧ e.contact = n ∧
      ∀ v, e.changes v = true := by
  have level : levelView old false ≠ levelView new false := by
    rw [levelView_of_unknown lost]
    exact fun h => known (levelView_eq_unknown.mp h)
  have lamp : lampView old false ≠ lampView new false := by
    rw [lampView_of_unknown lost]
    exact fun h => known (lampView_eq_unknown.mp h)
  unfold batchEntry
  rw [if_pos (.inr (.inl level))]
  refine ⟨_, rfl, rfl, fun v => ?_⟩
  cases v
  · exact decide_eq_true level
  · exact decide_eq_true lamp

/-! ### UNKNOWN stays presented -/

/-- Object n presents UNKNOWN if it is in service and references a contact that is UNKNOWN (R75). -/
def PresentsUnknown (s : State) (n : Nat) : Prop :=
  ∀ d p, (s.object n).service = .inService → (s.object n).definition = some d → (s.object n).presented = some p →
    ∀ r ∈ d.refs, s.accepted r.contact = none → p.code = .unknown

/-- The reverse index is whole, and every object presents UNKNOWN where it must. -/
def UnknownShows (s : State) : Prop := IndexWhole s ∧ UnknownPresented s

theorem State.accepted_of_contacts {s t : State} (h : t.filter.contacts = s.filter.contacts) (c : Nat) :
    t.accepted c = s.accepted c := by
  simp [State.accepted, State.contact, h]

/-- What an object must present rests on its record, its mark apart, and on the contacts. -/
theorem PresentsUnknown.of_same {s t : State} {n : Nat} (object : (s.object n).sameState (t.object n))
    (contacts : t.filter.contacts = s.filter.contacts) (h : PresentsUnknown s n) : PresentsUnknown t n := by
  intro d p serving definition presented r hr unknown
  rw [object.service] at serving
  rw [object.definition] at definition
  rw [object.presented] at presented
  rw [State.accepted_of_contacts contacts] at unknown
  exact h d p serving definition presented r hr unknown

theorem IndexWhole.of_same {s t : State} (objects : ∀ n, (s.object n).sameState (t.object n))
    (index : t.table.index = s.table.index) (h : IndexWhole s) : IndexWhole t := by
  intro n d serving definition
  rw [(objects n).service] at serving
  rw [(objects n).definition] at definition
  rw [index]
  exact h n d serving definition

/-- The index asks of an object its service state and its definition alone. -/
theorem IndexWhole.setObject {s : State} {n : Nat} {o : ObjectRecord} (h : IndexWhole s)
    (rest : o.service = .inService → (s.object n).service = .inService)
    (definition : o.definition = (s.object n).definition ∨ o.service ≠ .inService) : IndexWhole (s.setObject n o) := by
  intro m d serving defined
  rw [State.object_setObject] at serving defined
  split at serving
  next own =>
    rw [if_pos own] at defined
    obtain ⟨rfl, -⟩ := own
    exact h n d (rest serving) (definition.elim (fun e => e ▸ defined) (fun no => absurd serving no))
  next other =>
    rw [if_neg other] at defined
    exact h m d serving defined

theorem UnknownPresented.setObject {s : State} {n : Nat} {o : ObjectRecord} (h : UnknownPresented s)
    (own : ∀ d p, o.service = .inService → o.definition = some d → o.presented = some p →
      ∀ r ∈ d.refs, s.accepted r.contact = none → p.code = .unknown) : UnknownPresented (s.setObject n o) := by
  intro m d p
  rw [State.object_setObject]
  split
  · exact own d p
  · exact h m d p

theorem State.object_eq_getElem {s : State} {n : Nat} (place : n < s.table.objects.length) :
    s.object n = s.table.objects[n] := by
  rw [State.object, List.getD_eq_getElem?_getD, List.getElem?_eq_getElem place]
  rfl

theorem State.serving_lt {s : State} {n : Nat} (serving : (s.object n).service = .inService) :
    n < s.table.objects.length := by
  by_contra beyond
  rw [State.object, List.getD_eq_getElem?_getD, List.getElem?_eq_none (Nat.le_of_not_lt beyond)] at serving
  exact absurd serving (by simp [ObjectRecord.undefined])

/-- A resolved object presents UNKNOWN where it must, whatever it presented (R75). -/
theorem State.resolve_presentsUnknown (s : State) (n : Nat) (cause : ChangeCause) (stamp : Stamp) (expired : Bool) :
    PresentsUnknown (s.resolve n cause stamp expired).1 n := by
  obtain ⟨e, no⟩ | ⟨d, old, serving, definition, held, e⟩ := s.resolve_cases n cause stamp expired
  · rw [e]
    exact fun d p serving definition presented => absurd ⟨serving, ⟨d, definition⟩, ⟨p, presented⟩⟩ no
  · rw [e]
    have place := State.serving_lt serving
    refine PresentsUnknown.of_same ((State.handOn_sameObjects _ _).objects n)
      (State.handOn_sameObjects _ _).contacts ?_
    intro d' p _ definition' presented r hr unknown
    rw [State.object_setObject_self place] at definition' presented
    rw [resolveRecord_definition, definition] at definition'
    obtain rfl := Option.some.inj definition'
    have first : s.someUnknown d = true :=
      List.any_eq_true.mpr ⟨r, hr, Option.isNone_iff_eq_none.mpr unknown⟩
    rw [resolveRecord_presented n cause stamp d _ held, State.rule_of_unknown first] at presented
    rw [← Option.some.inj presented]
    rfl

/-- A resolution of one object leaves what stands of the others. -/
theorem State.resolve_object_ne {s : State} {n m : Nat} {cause : ChangeCause} {stamp : Stamp} {expired : Bool}
    (h : n ≠ m) : (s.object m).sameState ((s.resolve n cause stamp expired).1.object m) := by
  obtain ⟨e, -⟩ | ⟨d, old, -, -, -, e⟩ := s.resolve_cases n cause stamp expired
  · rw [e]
    rfl
  · rw [e]
    refine ObjectRecord.sameState.trans ?_ ((State.handOn_sameObjects _ _).objects m)
    rw [State.object_setObject_ne h]
    rfl

theorem State.resolve_contacts (s : State) (n : Nat) (cause : ChangeCause) (stamp : Stamp) (expired : Bool) :
    (s.resolve n cause stamp expired).1.filter.contacts = s.filter.contacts := by
  obtain ⟨e, -⟩ | ⟨d, old, -, -, -, e⟩ := s.resolve_cases n cause stamp expired
  · rw [e]
  · rw [e]
    exact (State.handOn_sameObjects _ _).contacts

theorem State.resolve_indexWhole {s : State} {n : Nat} {cause : ChangeCause} {stamp : Stamp} {expired : Bool}
    (h : IndexWhole s) : IndexWhole (s.resolve n cause stamp expired).1 := by
  obtain ⟨e, -⟩ | ⟨d, old, serving, -, -, e⟩ := s.resolve_cases n cause stamp expired
  · rw [e]
    exact h
  · rw [e]
    have same := State.handOn_sameObjects (s.setObject n
      (resolveRecord n cause stamp (s.object n) d old (s.rule d old expired)).1)
      (resolveRecord n cause stamp (s.object n) d old (s.rule d old expired)).2
    exact (h.setObject (fun _ => serving) (.inl (resolveRecord_definition ..))).of_same same.objects same.index

theorem State.resolve_presentsUnknown_kept {s : State} {n m : Nat} {cause : ChangeCause} {stamp : Stamp}
    {expired : Bool} (h : PresentsUnknown s m) : PresentsUnknown (s.resolve n cause stamp expired).1 m := by
  by_cases own : n = m
  · subst own
    exact s.resolve_presentsUnknown n cause stamp expired
  · exact h.of_same (State.resolve_object_ne own) (s.resolve_contacts n cause stamp expired)

/-- An object presents UNKNOWN after a batch where it must, if it did so before or the batch reaches it (R65, R72). -/
theorem State.resolveBatch_presentsUnknown {s : State} {entries : List BatchEntry} {n : Nat}
    (h : PresentsUnknown s n ∨ n < s.table.objects.length ∧ ∃ x ∈ hitsOf s.table.index entries, x.object = n) :
    PresentsUnknown (s.resolveBatch entries).1 n := by
  unfold State.resolveBatch
  generalize hitsOf s.table.index entries = hits at *
  have folds : ∀ (ns : List Nat) (acc : State × List Change),
      PresentsUnknown acc.1 n ∨ n ∈ ns ∧ (∃ x ∈ hits, x.object = n) →
      PresentsUnknown (ns.foldl (State.resolveHits hits) acc).1 n := by
    intro ns
    induction ns with
    | nil => exact fun acc h => h.elim id (fun h => absurd h.1 (by simp))
    | cons m ns ih =>
      intro acc h
      refine ih _ ?_
      unfold State.resolveHits
      split
      next none =>
        refine h.imp id (fun ⟨mem, x, hx, own⟩ => ⟨?_, x, hx, own⟩)
        obtain rfl | mem := List.mem_cons.mp mem
        · exact absurd own (by simpa using List.filter_eq_nil_iff.mp none x hx)
        · exact mem
      · dsimp only
        by_cases own : m = n
        · subst own
          exact .inl (State.resolve_presentsUnknown _ _ _ _ _)
        · refine h.imp State.resolve_presentsUnknown_kept (fun ⟨mem, reached⟩ => ⟨?_, reached⟩)
          exact (List.mem_cons.mp mem).resolve_left (Ne.symm own)
  exact folds _ _ (h.imp id (fun ⟨place, reached⟩ => ⟨List.mem_range.mpr place, reached⟩))

/-- Whoever references a contact that loses its level is reached by the batch, through the index (R64, R65). -/
theorem unknownPresented_batch {s : State} {time : Stamp} {news : List (Contact × Option Stamp)}
    (length : news.length = s.filter.contacts.length) (index : IndexWhole s) (h : UnknownPresented s) :
    UnknownPresented ((s.setContacts (news.map Prod.fst)).resolveBatch
      (batchEntries time 0 s.filter.contacts news)).1 := by
  intro n
  refine State.resolveBatch_presentsUnknown ?_
  by_cases kept : PresentsUnknown (s.setContacts (news.map Prod.fst)) n
  · exact .inl kept
  · simp only [PresentsUnknown, not_forall, State.object_setContacts] at kept
    obtain ⟨d, p, serving, definition, presented, r, hr, unknown, code⟩ := kept
    refine .inr ⟨s.serving_lt serving, ?_⟩
    have known : s.accepted r.contact ≠ none := fun none => code (h n d p serving definition presented r hr none)
    have place : r.contact < s.filter.contacts.length := by
      by_contra beyond
      refine known ?_
      simp [State.accepted, State.contact, List.getElem?_eq_none (Nat.le_of_not_lt beyond), Contact.fresh]
    have old : s.filter.contacts[r.contact]? = some s.filter.contacts[r.contact] := List.getElem?_eq_getElem place
    have new : news[r.contact]? = some news[r.contact] := List.getElem?_eq_getElem (length ▸ place)
    have known' : s.filter.contacts[r.contact].accepted ≠ none := by
      simpa [State.accepted, State.contact, old] using known
    have lost : news[r.contact].1.accepted = none := by
      simpa [State.accepted, State.contact, new] using unknown
    obtain ⟨e, entry, contact, changes⟩ := batchEntry_of_lost (n := 0 + r.contact)
      (stamp := news[r.contact].2.getD time) known' lost
    refine ⟨⟨n, e.stamp, e.accepted.isNone⟩, ?_, rfl⟩
    refine List.mem_flatMap.mpr ⟨e, mem_batchEntries.mpr ⟨_, _, _, _, old, new, entry⟩, ?_⟩
    refine List.mem_filterMap.mpr ⟨_, index n d serving definition r hr, ?_⟩
    rw [if_pos ⟨by simp [contact], changes _⟩]

/-! ### The index -/

theorem mem_insertEntry {e x : IndexEntry} {index : List IndexEntry} : e ∈ insertEntry x index ↔ e = x ∨ e ∈ index := by
  induction index with
  | nil => simp [insertEntry]
  | cons y ys ih =>
    unfold insertEntry
    split
    · simp only [List.mem_cons, ih]
      exact or_left_comm
    · simp

/-- An object enters the index under each of its contacts, and no other entry does (R60, R64). -/
theorem mem_enterIndex {e : IndexEntry} {n : Nat} {d : Definition} {index : List IndexEntry} :
    e ∈ enterIndex n d index ↔ e ∈ index ∨ ∃ r ∈ d.refs, e = ⟨r.contact, n, d.kind.view, r.inverted⟩ := by
  unfold enterIndex indexEntries
  generalize d.refs = refs
  induction refs with
  | nil => simp
  | cons r rs ih =>
    simp only [List.map_cons, List.foldr_cons, mem_insertEntry, ih, List.mem_cons, exists_eq_or_imp]
    exact or_left_comm

/-- The loaded index has every reference of every object of the image that is in service (R70). -/
theorem mem_loadIndex {objects : List (Option StoredObject)} {n : Nat} {o : StoredObject}
    (stored : objects[n]? = some (some o)) (serving : o.inService = true) {r : Reference}
    (hr : r ∈ o.definition.refs) : ⟨r.contact, n, o.definition.kind.view, r.inverted⟩ ∈ loadIndex objects := by
  have grows : ∀ (xs : List (Nat × Option StoredObject)) (index : List IndexEntry) (e : IndexEntry),
      e ∈ index ∨ (∃ x ∈ xs, ∃ o r, x.2 = some o ∧ o.inService = true ∧ r ∈ o.definition.refs ∧
        e = ⟨r.contact, x.1, o.definition.kind.view, r.inverted⟩) → e ∈ xs.foldl loadIndexStep index := by
    intro xs
    induction xs with
    | nil => exact fun index e h => h.elim id (fun ⟨x, hx, _⟩ => absurd hx (by simp))
    | cons x xs ih =>
      intro index e h
      refine ih _ e ?_
      obtain old | ⟨y, hy, o, r, stored, serving, hr, rfl⟩ := h
      · refine .inl ?_
        unfold loadIndexStep
        split
        · split
          · exact mem_enterIndex.mpr (.inl old)
          · exact old
        · exact old
      · obtain rfl | hy := List.mem_cons.mp hy
        · refine .inl ?_
          unfold loadIndexStep
          rw [stored]
          dsimp only
          rw [if_pos serving]
          exact mem_enterIndex.mpr (.inr ⟨r, hr, rfl⟩)
        · exact .inr ⟨y, hy, o, r, stored, serving, hr, rfl⟩
  have place : n < objects.length := (List.getElem?_eq_some_iff.mp stored).1
  refine grows _ [] _ (.inr ⟨(n, some o), ?_, o, r, rfl, serving, hr, rfl⟩)
  refine List.mem_iff_getElem?.mpr ⟨n, ?_⟩
  simp [place, (List.getElem?_eq_some_iff.mp stored).2]

theorem unknownShows_kept : KeptByObjects UnknownShows where
  same s t same h := ⟨h.1.of_same same.objects same.index,
    fun n => PresentsUnknown.of_same (same.objects n) same.contacts (h.2 n)⟩
  resolved s n cause stamp expired h := ⟨State.resolve_indexWhole h.1,
    fun _ => State.resolve_presentsUnknown_kept (h.2 _)⟩
  stopped s n h := ⟨h.1.setObject id (.inl rfl), h.2.setObject (h.2 n)⟩
  batch s time news length h := ⟨State.resolveBatch_kept (fun _ _ _ _ _ => State.resolve_indexWhole)
      (h.1.of_same (t := s.setContacts _) (fun _ => rfl) rfl), unknownPresented_batch length h.1 h.2⟩
  cleared s cs unused h := by
    refine ⟨h.1, fun n d p serving => ?_⟩
    have place : n < s.table.objects.length := State.serving_lt (s := s) serving
    have used : s.inUse = true := by
      refine Bool.or_eq_true_iff.mpr (.inl (List.any_eq_true.mpr ⟨s.table.objects[n], List.getElem_mem place, ?_⟩))
      rw [← State.object_eq_getElem place]
      exact decide_eq_true serving
    exact absurd used (by simp [unused])
  defined s n d _ h := ⟨h.1.setObject (fun no => nomatch no) (.inr (by simp [Definition.record])),
    h.2.setObject (fun _ _ no => nomatch no)⟩
  removed s n _ h := ⟨h.1.setObject (fun no => nomatch no) (.inr (by simp [ObjectRecord.undefined])),
    h.2.setObject (fun _ _ no => nomatch no)⟩
  taken s n d stamp resting definition h := by
    refine ⟨State.resolve_indexWhole ?_, fun m => ?_⟩
    · intro m d' serving defined r hr
      refine mem_enterIndex.mpr ?_
      rw [State.object_setIndex, State.object_setObject] at serving defined
      split at serving
      next own =>
        rw [if_pos own] at defined
        obtain rfl : d = d' := by simpa [definition] using defined
        obtain ⟨rfl, -⟩ := own
        exact .inr ⟨r, hr, rfl⟩
      next other =>
        rw [if_neg other] at defined
        exact .inl (h.1 m d' serving defined r hr)
    · by_cases own : n = m
      · subst own
        exact State.resolve_presentsUnknown _ n .service stamp false
      · refine State.resolve_presentsUnknown_kept (PresentsUnknown.of_same (s := s) ?_ rfl (h.2 m))
        rw [State.object_setIndex, State.object_setObject_ne own]
        rfl
  out s n serving h := by
    refine ⟨fun m d serving' definition r hr => ?_, h.2.setObject (fun _ _ no => nomatch no)⟩
    rw [State.object_setIndex, State.object_setObject] at serving' definition
    split at serving'
    · exact nomatch serving'
    next other =>
      rw [if_neg other] at definition
      have ne : m ≠ n := by
        rintro rfl
        exact other ⟨rfl, State.serving_lt serving'⟩
      exact List.mem_filter.mpr ⟨h.1 m d serving' definition r hr, by simpa using ne⟩
  unlatched s n p presented h := by
    refine ⟨h.1.setObject id (.inl rfl), h.2.setObject fun d q serving definition held r hr unknown => ?_⟩
    obtain rfl := Option.some.inj held
    exact h.2 n d p serving definition presented r hr unknown
  blank s p := by
    refine ⟨fun n d serving => ?_, fun n d p serving => ?_⟩ <;>
    · rw [State.object_blank] at serving
      exact nomatch serving
  loaded s := by
    refine ⟨fun n d serving definition r hr => ?_, fun n d p serving _ presented _ _ _ => ?_⟩
    · rw [State.object_completeLoad] at serving definition
      obtain ⟨o, stored, serving, definition', -⟩ := loadObject_serving serving
      obtain rfl := Option.some.inj (definition'.symm.trans definition)
      refine mem_loadIndex (objects := s.loads.objects) ?_ serving hr
      cases entry : s.loads.objects[n]? with
      | none => exact absurd stored (by simp [entry])
      | some x => simpa [entry] using stored
    · rw [State.object_completeLoad] at serving presented
      obtain ⟨o, -, -, -, presented'⟩ := loadObject_serving serving
      rw [← Option.some.inj (presented'.symm.trans presented)]
      rfl

/-- Settles O58: a contact becomes UNKNOWN with a batch that reaches every object referencing it, or while no object
is in service; and whatever resolves an object has it present UNKNOWN where it must. -/
theorem unknownStaysPresented : Obligations.UnknownStaysPresented := fun _ _ _ index unknown run =>
  unknownShows_kept.step ⟨index, unknown⟩ run

end Sys2Proof.Machine
end

section
/-! PROOFS. What journal, resolver and link leave of the press unit; how a property of the press unit is kept by every
event; and the lines of a part whose press-enable strap is open (R121). -/

namespace Sys2Proof.Machine

/-! ### What leaves the press unit alone -/

/-- The press unit of `s` stands in `t`, but for ENDED slots made FREE. -/
structure SamePress (s t : State) : Prop where
  power : t.power = s.power
  straps : t.straps = s.straps
  outputs : t.press.outputs = s.press.outputs
  permits : t.press.permits = s.press.permits
  queue : t.press.queue = s.press.queue
  inhibit : t.press.inhibit = s.press.inhibit
  length : t.press.slots.length = s.press.slots.length
  slots : ∀ k, t.slot k = s.slot k ∨ ((s.slot k).operation = none ∧ (t.slot k).operation = none)

theorem SamePress.refl (s : State) : SamePress s s := ⟨rfl, rfl, rfl, rfl, rfl, rfl, rfl, fun _ => .inl rfl⟩

theorem SamePress.operation {s t : State} (h : SamePress s t) (k : Nat) :
    (t.slot k).operation = (s.slot k).operation := by
  obtain e | ⟨a, b⟩ := h.slots k
  · rw [e]
  · rw [a, b]

theorem SamePress.trans {a b c : State} (h : SamePress a b) (k : SamePress b c) : SamePress a c where
  power := k.power.trans h.power
  straps := k.straps.trans h.straps
  outputs := k.outputs.trans h.outputs
  permits := k.permits.trans h.permits
  queue := k.queue.trans h.queue
  inhibit := k.inhibit.trans h.inhibit
  length := k.length.trans h.length
  slots n := by
    obtain e | ⟨x, y⟩ := k.slots n
    · rw [e]
      exact h.slots n
    · exact .inr ⟨(h.operation n).symm.trans x, y⟩

theorem SamePress.output {s t : State} (h : SamePress s t) (o : Nat) : t.output o = s.output o := by
  unfold State.output
  rw [h.outputs]

theorem SamePress.of_press {s t : State} (power : t.power = s.power) (straps : t.straps = s.straps)
    (press : t.press = s.press) : SamePress s t :=
  ⟨power, straps, by rw [press], by rw [press], by rw [press], by rw [press], by rw [press],
    fun k => .inl (by unfold State.slot; rw [press])⟩

/-- The operations of journal, press unit and resolver keep the number of slots. -/
theorem slotsLength_kept (n : Nat) : Kept (fun s => s.press.slots.length = n) where
  outputs _ _ := id
  slot s k x _ h := by simpa using h
  watch s k op e h := by simpa using h
  dirty _ _ _ := id
  permit _ _ _ := id
  queue _ _ := id
  objects _ _ := id
  modulePending _ _ _ := id
  outputPending _ _ _ := id
  append _ _ _ _ _ := id

theorem SameRelays.samePress {s t : State} (h : SameRelays s t) (length : t.press.slots.length = s.press.slots.length) :
    SamePress s t :=
  ⟨h.power, h.straps, h.outputs, h.permits, h.queue, h.inhibit, length, fun k =>
    (h.slots k).imp id (fun ⟨tag, rep, e, f⟩ => by rw [e, f]; exact ⟨rfl, rfl⟩)⟩

theorem State.refill_samePress (s : State) (l : Lane) : SamePress s (s.refill l) :=
  (s.refill_sameRelays l).samePress ((slotsLength_kept _).refill rfl)

theorem SamePress.refill {s t : State} {l : Lane} (h : SamePress s t) : SamePress s (t.refill l) :=
  h.trans (t.refill_samePress l)

theorem State.handModule_samePress (s : State) (i : ModuleItem) : SamePress s (s.handModule i) := by
  unfold State.handModule
  split
  · exact .of_press rfl rfl rfl
  · exact SamePress.refill (.of_press rfl rfl rfl)

theorem State.handModules_samePress (s : State) (is : List ModuleItem) : SamePress s (s.handModules is) := by
  refine kept_foldl (P := SamePress s) (fun _ _ h => h.trans (State.handModule_samePress _ _)) is (.refl s)

theorem State.handOutput_samePress (s : State) (i : OutputItem) : SamePress s (s.handOutput i) := by
  unfold State.handOutput
  split
  · exact .of_press rfl rfl rfl
  · exact SamePress.refill (.of_press rfl rfl rfl)

theorem State.handChange_samePress (s : State) (c : Change) : SamePress s (s.handChange c) := by
  unfold State.handChange
  split
  · split
    · split
      · exact .of_press rfl rfl rfl
      · exact SamePress.refill (.of_press rfl rfl rfl)
    · split
      · exact SamePress.refill (.of_press rfl rfl rfl)
      · exact .refl s
    · exact .refl s
  · exact .refl s

/-- A slot whose operation ends is ENDED, or FREE once its record is in a lane (R138 steps 6 and 7). -/
theorem State.handPressEnd_samePress (s : State) (k tag : Nat) (rep : EndReport) :
    SamePress (s.setSlot k (.ended tag rep)) (s.handPressEnd k tag rep) := by
  unfold State.handPressEnd
  split
  · refine ⟨rfl, rfl, rfl, rfl, rfl, rfl, by simp [State.append], fun j => ?_⟩
    rw [State.slot_setSlot, State.slot_setSlot]
    by_cases own : k = j ∧ k < s.press.slots.length
    · rw [if_pos own]
      exact .inr ⟨rfl, by split <;> first | rfl | exact absurd own ‹_›⟩
    · rw [if_neg own]
      exact .inl (by split <;> first | rfl | exact absurd ‹_› own)
  · exact State.refill_samePress _ _

theorem State.resolve_samePress (s : State) (n : Nat) (cause : ChangeCause) (stamp : Stamp) (expired : Bool) :
    SamePress s (s.resolve n cause stamp expired).1 := by
  unfold State.resolve
  split
  · dsimp only
    unfold State.handOn
    split
    · exact .of_press rfl rfl rfl
    · exact SamePress.trans (b := s.setObject n _) (.of_press rfl rfl rfl) (State.handChange_samePress _ _)
  · exact .refl s

theorem State.resolveBatch_samePress (s : State) (entries : List BatchEntry) :
    SamePress s (s.resolveBatch entries).1 :=
  State.resolveBatch_kept (P := SamePress s)
    (fun _ _ _ _ _ h => h.trans (State.resolve_samePress _ _ _ _ _)) (.refl s)

theorem State.markAll_samePress (s : State) : SamePress s s.markAll :=
  SamePress.refill (SamePress.refill (t := s.setObjects _) (.of_press rfl rfl rfl))

theorem State.chooseFrame_samePress (s : State) : SamePress s s.chooseFrame := by
  have length : KeptByLink (fun t : State => t.press.slots.length = s.press.slots.length) :=
    { slotsLength_kept _ with link := fun _ _ => id, drop := fun _ _ _ => id }
  exact s.chooseFrame_sameRelays.samePress (length.chooseFrame rfl)

/-! ### How a property of the press unit is kept -/

/-- A property of the press unit, kept by all that changes it. -/
structure KeptByPressUnit (P : State → Prop) : Prop where
  same : ∀ s t, SamePress s t → P s → P t
  ended : ∀ s k rep, P s → P (s.endOperation k rep)
  released : ∀ s o, (s.output o).state = .releasing → P s → P (s.completeRelease o)
  pulse : ∀ s o e, (s.output o).state = .driven → P s → P (s.endPulse o e)
  window : ∀ s o e, (s.output o).state = .releasing → P s → P (s.endWindow o e)
  gap : ∀ s k op e, s.slot k = .gap op e → P s → P (s.stepDue k { op with step := op.step + 1 })
  pressed : ∀ s k op, s.power = .operating → s.press.inhibit = false → stepsFit op.steps = true → op.step = 1 →
    s.stepFault op.steps = none → s.freeSlot = some k → P s → P ((s.claim k op.steps).stepDue k op)
  cleared : ∀ s o, (s.output o).defined = true → (s.output o).state = .faulted → P s →
    P (s.setOutput o { (s.output o).toIdle with fault := none })
  defined : ∀ s o pulse fields, ((s.output o).defined = true → (s.output o).state = .idle) → P s →
    P (s.setOutput o ((s.output o).redefined pulse fields))
  inhibited : ∀ s, P s → P (s.setInhibit true)
  enabled : ∀ s, s.straps.pressEnable = true → P s → P (s.setInhibit false)
  blank : ∀ (s : State) p, P s → P (s.blocksBlank.setPower p)
  loaded : ∀ (s : State) b, s.power = .loading b → P s → P s.completeLoad

namespace KeptByPressUnit

variable {P : State → Prop} (K : KeptByPressUnit P)
include K

theorem press {s t : State} (h : P s) (power : t.power = s.power) (straps : t.straps = s.straps)
    (press : t.press = s.press) : P t := K.same s t (.of_press power straps press) h

theorem judgeWatch {s : State} {cs : List Change} {k : Nat} (h : P s) : P (State.judgeWatch cs s k) := by
  unfold State.judgeWatch
  split
  · dsimp only
    split
    · exact h
    · split
      · exact K.ended _ _ _ h
      · split
        · exact K.ended _ _ _ h
        · exact h
  · exact h

theorem handToPress {s : State} {cs : List Change} (h : P s) : P (s.handToPress cs) :=
  kept_foldl (fun _ _ => K.judgeWatch) _ h

theorem judgeRelease {s : State} {es : List BatchEntry} {o : Nat} (h : P s) : P (State.judgeRelease es s o) := by
  unfold State.judgeRelease
  dsimp only
  split
  next releasing =>
    split
    · exact h
    · split
      · exact K.released s o releasing.1 h
      · exact h
  · exact h

theorem applyBatch {s : State} {es : List BatchEntry} (h : P s) : P (s.applyBatch es) :=
  kept_foldl (fun _ _ => K.judgeRelease) _ (K.handToPress (K.same s _ (s.resolveBatch_samePress es) h))

theorem changeContacts {s : State} {cs : List Contact} (h : P s) : P (s.changeContacts cs) :=
  K.applyBatch (K.press (t := s.setContacts cs) h rfl rfl rfl)

theorem expireTimer {s : State} {n : Nat} {e : Stamp} (h : P s) : P (s.expireTimer n e) :=
  K.handToPress (K.same _ _ (State.resolve_samePress _ n .timer e true) (K.press (t := s.setObject n _) h rfl rfl rfl))

theorem handAlone {s : State} {c : Change} (h : P s) : P (s.handAlone c) :=
  K.handToPress (K.same s _ (s.handChange_samePress c) h)

theorem handModule {s : State} {i : ModuleItem} (h : P s) : P (s.handModule i) :=
  K.same s _ (s.handModule_samePress i) h

theorem chooseFrame {s : State} (h : P s) : P s.chooseFrame := K.same s _ s.chooseFrame_samePress h

theorem finish {before s : State} (h : P s) : P (State.finish before s) := by
  have objects : ∀ (u : State) (n : Nat), P u → P (State.expireAtOnce before u n) := by
    intro u n hu
    unfold State.expireAtOnce
    split
    · exact hu
    · split
      · exact K.chooseFrame (K.expireTimer hu)
      · exact hu
  have slots : ∀ (u : State) (k : Nat), P u → P (State.endZeroWatch before u k) := by
    intro u k hu
    unfold State.endZeroWatch
    split
    · split
      · exact K.chooseFrame (K.ended _ _ _ hu)
      · exact hu
    · exact hu
  exact kept_foldl slots _ (kept_foldl objects _ (K.chooseFrame h))

theorem judgeAcquisition {s : State} {t : Stamp} (h : P s) : P (s.judgeAcquisition t) := by
  unfold State.judgeAcquisition
  split
  · have entered : P (s.handModules (entryItems s.scanner.modules t)).enterRunning :=
      K.press (K.same s _ (s.handModules_samePress _) h) rfl rfl rfl
    exact K.same _ _ (State.markAll_samePress _) entered
  · exact h

theorem completeScan {s : State} {scan : Scan} {reads : List ModuleRead} (h : P s) : P (s.completeScan scan reads) := by
  unfold State.completeScan
  dsimp only
  generalize s.scanner.modules.map (completeModule s.scanner.tolerance scan reads) = outcomes
  have handed := K.same _ _ (State.handModules_samePress _ (outcomes.filterMap (·.item)))
    (K.press (t := s.setScanner (s.scanner.afterScan scan outcomes)) h rfl rfl rfl)
  generalize s.filterContacts scan.sampleTime outcomes = filtered
  have applied := K.applyBatch (es := batchEntries scan.sampleTime 0 s.filter.contacts filtered)
    (K.press (t := State.setContacts _ (filtered.map (·.1))) handed rfl rfl rfl)
  exact K.judgeAcquisition applied

theorem served {i : Instr} {s t : State} (operating : s.power = .operating) (h : P s) (v : Served i s t) : P t := by
  cases v with
  | same => exact h
  | mode | hold | scanSet | modulesDefined | moduleUnlatched | objectDefined | objectRemoved | saving | restarting =>
    exact K.press h rfl rfl rfl
  | fetched u r =>
    have dropped : SamePress s ((s.dropRecords .urgent u).dropRecords .routine r) := .of_press rfl rfl rfl
    refine K.same s _ ?_ h
    unfold State.fetched State.refillTaken
    split <;> split
    · exact dropped
    · exact dropped.trans (State.refill_samePress _ _)
    · exact dropped.trans (State.refill_samePress _ _)
    · exact (dropped.trans (State.refill_samePress _ _)).trans (State.refill_samePress _ _)
  | synced => exact K.same s _ s.markAll_samePress h
  | moduleOut slot =>
    have handed := K.handModule (i := ⟨slot, .outOfService, none, s.time⟩)
      (K.press (t := s.setScanner ((s.scanner.setModule slot .takenOut).discard slot)) h rfl rfl rfl)
    exact K.applyBatch (K.press (t := State.setContacts _ _) handed rfl rfl rfl)
  | moduleIn slot => exact K.handModule (K.press (t := s.setScanner _) h rfl rfl rfl)
  | profileDefined p new => exact K.changeContacts (K.press (t := s.setProfile p new) h rfl rfl rfl)
  | profileAssigned first last p => exact K.changeContacts h
  | flashDefined p new =>
    unfold State.defineFlash
    split
    · exact h
    · dsimp only
      exact K.changeContacts (K.press (t := s.setFlash p new) h rfl rfl rfl)
  | objectIn n d =>
    exact K.handToPress
      (K.same _ _ (State.resolve_samePress _ _ _ _ _) (K.press (t := State.setIndex _ _) h rfl rfl rfl))
  | objectOut n => exact K.handAlone (K.press (t := State.setIndex _ _) h rfl rfl rfl)
  | objectUnlatched n p => exact K.handAlone (K.press (t := s.setObject n _) h rfl rfl rfl)
  | outputCleared o defined faulted =>
    exact K.same _ _ (State.handOutput_samePress _ _) (K.cleared s o defined faulted h)
  | outputDefined o pulse fields resting => exact K.defined s o pulse fields resting h
  | pressed k op running allowed fit first sound slot => exact K.pressed s k op operating allowed fit first sound slot h
  | aborted k => exact K.ended _ _ _ h
  | inhibited =>
    refine kept_foldl (P := P) (fun u k hu => ?_) _ (K.inhibited s h)
    unfold State.inhibitSlot
    split
    · exact K.ended _ _ _ hu
    · exact hu
  | enabled strap => exact K.enabled s strap h

/-- A property of the press unit is kept by every event. -/
theorem eventsLead : EventsLead P P where
  still _ h := h
  later _ _ _ h := K.press h rfl rfl rfl
  receiver _ _ h := K.press h rfl rfl rfl
  dropped _ h := K.press h rfl rfl rfl
  answered s i f r takes _ h := by
    have operating : s.power = .operating := by
      simp only [State.takesFrames, Bool.and_eq_true, decide_eq_true_eq] at takes
      exact takes.1
    exact K.finish (K.press (K.served operating h (served_serveRequest s i)) rfl rfl rfl)
  echoed s f _ _ h := K.finish (K.press h rfl rfl rfl)
  sent s h := by
    unfold State.frameSent
    dsimp only
    split
    · exact K.blank _ _ (K.press (t := s.setSending none) h rfl rfl rfl)
    · exact K.chooseFrame (K.press (t := s.setSending none) h rfl rfl rfl)
  powerLost s h := K.blank s _ h
  loaded s b loading h := K.loaded s b loading h
  scanStarted s h := K.finish (K.press h rfl rfl rfl)
  scanned s scan reads _ h := K.finish (K.completeScan h)
  timer s n e _ h := K.finish (K.expireTimer h)
  pulse s o e driven h := K.finish (K.pulse s o e driven h)
  window s o e releasing h := K.finish (K.window s o e releasing h)
  gap s k op e slot h := by
    refine K.finish ?_
    unfold State.endGap
    rw [slot]
    exact K.gap s k op e slot h
  watch s k op e _ h := K.finish (K.ended _ _ _ h)
  stored s x h := K.press h rfl rfl rfl

end KeptByPressUnit

/-! ### A part that presses nothing -/

/-- The press-enable strap is open, inhibit is on, no operation presses, and no output has an owner or a closed line. -/
structure LinesOpen (s : State) : Prop where
  strap : s.straps.pressEnable = false
  inhibit : s.press.inhibit = true
  slots : ∀ k, (s.slot k).isPressing = false
  outputs : ∀ o, (s.output o).owner = none ∧ (s.output o).state ≠ .driven

theorem LinesOpen.of_same {s t : State} (same : SamePress s t) (h : LinesOpen s) : LinesOpen t where
  strap := same.straps ▸ h.strap
  inhibit := same.inhibit ▸ h.inhibit
  slots k := by
    obtain e | ⟨-, none⟩ := same.slots k
    · rw [e]
      exact h.slots k
    · simp [Slot.isPressing, none]
  outputs o := by
    rw [same.output o]
    exact h.outputs o

theorem LinesOpen.setOutput {s : State} {o : Nat} {r : OutputRecord} (h : LinesOpen s) (owner : r.owner = none)
    (opened : r.state ≠ .driven) : LinesOpen (s.setOutput o r) where
  strap := h.strap
  inhibit := h.inhibit
  slots := h.slots
  outputs p := by
    rw [State.output_setOutput]
    split
    · exact ⟨owner, opened⟩
    · exact h.outputs p

theorem LinesOpen.setSlot {s : State} {k : Nat} {x : Slot} (h : LinesOpen s) (rest : x.isPressing = false) :
    LinesOpen (s.setSlot k x) where
  strap := h.strap
  inhibit := h.inhibit
  slots j := by
    rw [State.slot_setSlot]
    split
    · exact rest
    · exact h.slots j
  outputs := h.outputs

theorem State.mem_outputs {s : State} {r : OutputRecord} (h : r ∈ s.press.outputs) : ∃ o, s.output o = r := by
  obtain ⟨o, e⟩ := List.mem_iff_getElem?.mp h
  exact ⟨o, by simp [State.output, e]⟩

/-- Where no output has an owner, the outputs stand while a slot gives up its own. -/
theorem LinesOpen.map_outputs {s : State} (h : LinesOpen s) {c : OutputRecord → Bool} {f : OutputRecord → OutputRecord}
    {k : Nat} (own : ∀ r, c r = true → r.owner = some k) :
    s.press.outputs.map (fun r => if c r = true then f r else r) = s.press.outputs := by
  calc s.press.outputs.map (fun r => if c r = true then f r else r)
    _ = s.press.outputs.map id := by
        refine List.map_congr_left fun r hr => if_neg fun hc => ?_
        obtain ⟨o, rfl⟩ := State.mem_outputs hr
        exact absurd (own _ hc) (by simp [(h.outputs o).1])
    _ = s.press.outputs := List.map_id _

/-- Where no output has an owner, the end of an operation changes its slot and the queue alone. -/
theorem LinesOpen.endOperation {s : State} {k : Nat} {rep : EndReport} (h : LinesOpen s) :
    LinesOpen (s.endOperation k rep) := by
  unfold State.endOperation
  split
  · exact h
  next op _ =>
    have unclaimed : s.unclaim k = s := by
      have := h.map_outputs (c := fun r => r.owner = some k ∧ r.state = .claimed) (f := OutputRecord.toIdle) (k := k)
        (fun r hr => by simp at hr; exact hr.1)
      unfold State.unclaim
      simp only [decide_eq_true_eq] at this
      rw [this]
      rfl
    have cut : s.cutOffDriven k rep.stamp = s := by
      unfold State.cutOffDriven
      split
      · rfl
      next o found =>
        obtain ⟨place, own, -⟩ := List.findIdx?_eq_some_iff_getElem.mp found
        have : (s.output o).owner = some k := by
          simp at own
          simpa [State.output, place] using own.1
        exact absurd this (by simp [(h.outputs o).1])
    have disowned : s.disown k = s := by
      have := h.map_outputs (c := fun r => r.owner = some k ∧ r.state = .releasing)
        (f := fun r => { r with owner := none }) (k := k) (fun r hr => by simp at hr; exact hr.1)
      unfold State.disown
      simp only [decide_eq_true_eq] at this
      rw [this]
      rfl
    rw [unclaimed, cut, disowned]
    refine LinesOpen.of_same (State.handPressEnd_samePress _ _ _ _) (LinesOpen.setSlot ?_ rfl)
    exact ⟨h.strap, h.inhibit, h.slots, h.outputs⟩

theorem LinesOpen.completeRelease {s : State} {o : Nat} (h : LinesOpen s) : LinesOpen (s.completeRelease o) := by
  unfold State.completeRelease
  simp only [(h.outputs o).1]
  exact h.setOutput rfl (by simp [OutputRecord.toIdle])

theorem LinesOpen.faultOutput {s : State} {o : Nat} {cause : DriverCause} {stamp : Stamp} (h : LinesOpen s) :
    LinesOpen (s.faultOutput o cause stamp) :=
  LinesOpen.of_same (State.handOutput_samePress _ _) (h.setOutput rfl (by simp))

theorem LinesOpen.endWindow {s : State} {o : Nat} {d : Stamp} (h : LinesOpen s) : LinesOpen (s.endWindow o d) := by
  unfold State.endWindow State.endOwner
  simp only [(h.outputs o).1]
  split
  · exact h.completeRelease
  · split
    · exact h.faultOutput
    · split
      · exact h.faultOutput
      · exact h.completeRelease

theorem State.slot_blank (s : State) (p : Power) (k : Nat) : (s.blocksBlank.setPower p).slot k = .free none := by
  simp only [State.slot, State.setPower_press, State.blocksBlank, PressUnit.blank, List.getD_eq_getElem?_getD,
    List.getElem?_replicate]
  split <;> rfl

theorem State.output_blank (s : State) (p : Power) (o : Nat) : (s.blocksBlank.setPower p).output o = .undefined := by
  simp only [State.output, State.setPower_press, State.blocksBlank, PressUnit.blank, List.getD_eq_getElem?_getD,
    List.getElem?_replicate]
  split <;> rfl

/-- Every output after the load comes from its entry of the contents; beyond them there is none (R118). -/
theorem State.output_completeLoad (s : State) (o : Nat) :
    s.completeLoad.output o = loadOutput (s.loads.outputs[o]?.getD none) := by
  simp only [State.output, State.completeLoad, State.setPower_press, State.applyContents, List.getD_eq_getElem?_getD,
    List.getElem?_map, State.loads]
  cases (loadedContents s.store.image s.straps.storeIgnore).outputs[o]? <;> rfl

theorem loadOutput_resting (x : Option StoredOutput) : (loadOutput x).owner = none ∧ (loadOutput x).state = .idle := by
  cases x <;> exact ⟨rfl, rfl⟩

theorem linesOpen_blank {s : State} (p : Power) (strap : s.straps.pressEnable = false) :
    LinesOpen (s.blocksBlank.setPower p) where
  strap := strap
  inhibit := rfl
  slots k := by
    rw [State.slot_blank]
    rfl
  outputs o := by
    rw [State.output_blank]
    exact ⟨rfl, by simp [OutputRecord.undefined]⟩

/-- Nothing presses, no line is closed, and inhibit cannot be taken off: every event of a part with the strap open keeps
this (R121, R122). -/
theorem linesOpen_kept : KeptByPressUnit LinesOpen where
  same _ _ same h := h.of_same same
  ended _ _ _ h := h.endOperation
  released _ _ _ h := h.completeRelease
  pulse s o _ driven h := absurd driven (h.outputs o).2
  window _ _ _ _ h := h.endWindow
  gap s k op e slot h := absurd (h.slots k) (by simp [slot, Slot.isPressing, Slot.operation, Slot.isWatching])
  pressed s _ _ _ allowed _ _ _ _ h := absurd h.inhibit (by simp [allowed])
  cleared s o _ _ h := h.setOutput rfl (by simp [OutputRecord.toIdle])
  defined s o pulse fields _ h := by
    unfold OutputRecord.redefined
    split
    · exact h.setOutput rfl (by simp)
    · exact h.setOutput (h.outputs o).1 (h.outputs o).2
  inhibited _ h := ⟨h.strap, rfl, h.slots, h.outputs⟩
  enabled s strap h := absurd h.strap (by simp [strap])
  blank s p h := linesOpen_blank p h.strap
  loaded s _ _ h := by
    refine ⟨h.strap, h.inhibit, h.slots, fun o => ?_⟩
    rw [State.output_completeLoad]
    exact ⟨(loadOutput_resting _).1, by simp [(loadOutput_resting _).2]⟩

theorem linesOpen_iff (s : State) : LinesHeldOpen s ↔ (s.straps.pressEnable = false → LinesOpen s) :=
  ⟨fun h strap => ⟨strap, (h strap).1, (h strap).2.1, fun o => ⟨((h strap).2.2 o).1,
      by simpa [State.lineClosed] using ((h strap).2.2 o).2⟩⟩,
    fun h strap => ⟨(h strap).inhibit, (h strap).slots, fun o => ⟨((h strap).outputs o).1,
      by simpa [State.lineClosed] using ((h strap).outputs o).2⟩⟩⟩

/-! ### The straps -/

theorem straps_keptByOwners (x : Straps) : KeptByOwners (fun s => s.straps = x) where
  outputs _ _ := id
  slot _ _ _ _ := id
  watch _ _ _ _ := id
  dirty _ _ _ := id
  permit _ _ _ := id
  queue _ _ := id
  objects _ _ := id
  modulePending _ _ _ := id
  outputPending _ _ _ := id
  append _ _ _ _ _ := id
  drop _ _ _ := id
  scanner _ _ _ := id
  contacts _ _ := id
  profile _ _ _ := id
  flash _ _ _ := id
  index _ _ := id
  inhibit _ _ := id
  store _ _ := id
  switches _ _ _ _ := id
  redefined _ _ _ := id

/-- POWER_ON alone samples the straps (R147, R177). -/
theorem straps_eventsLead (x : Straps) : EventsLead (fun s => s.straps = x) (fun s => s.straps = x) :=
  (straps_keptByOwners x).eventsLead (fun s h => s.chooseFrame_sameRelays.straps.trans h) (fun _ _ _ => id)
    (fun _ _ => id) (fun _ _ => id) (fun _ _ _ _ _ => id) (fun _ => id) (fun _ _ => id) (fun _ => id)
    serveRequest_replies (fun _ => id) (fun _ _ _ h => (straps_keptByOwners x).finish
      (fun s h => s.chooseFrame_sameRelays.straps.trans h) ((straps_keptByOwners x).completeScan (fun _ => id) h))

/-- Settles O59: the straps stand but at POWER_ON, which leaves every line open; with the strap closed nothing is
asked, and with it open every event keeps the lines open. -/
theorem linesStayOpen : Obligations.LinesStayOpen := by
  intro s t open' run
  rw [linesOpen_iff] at *
  have powered : ∀ (u : State) straps, straps.pressEnable = false →
      LinesOpen (((u.blocksBlank.setTime 0).setStraps straps).setPower (.loading 0)) := fun u straps strap =>
    linesOpen_blank (s := (u.setTime 0).setStraps straps) (.loading 0) strap
  cases strap : s.straps.pressEnable with
  | true =>
    have lead : EventsLead (fun u => u.straps = s.straps) (fun u => u.straps.pressEnable = false → LinesOpen u) :=
      (straps_eventsLead s.straps).weaken fun u same no => absurd no (by simp [same, strap])
    exact lead.step (fun _ _ => id) (fun u straps _ => powered u straps) rfl run
  | false =>
    have lead : EventsLead LinesOpen (fun u => u.straps.pressEnable = false → LinesOpen u) :=
      linesOpen_kept.eventsLead.weaken fun u h _ => h
    exact lead.step (fun u _ h => h.of_same (s := u) (.of_press rfl rfl rfl))
      (fun u straps _ => powered u straps) (open' strap) run

end Sys2Proof.Machine
end

section
/-! PROOFS. The press unit stays sound (R118, R120, R125, R126). Soundness is cut into what holds of the unit as a
whole, of each output record, and of each slot; while an operation is being moved on, its own slot alone is out of
step. -/

namespace Sys2Proof.Machine

/-! ### The parts of soundness -/

/-- An output runs the timer of its state, and has an owner while it is CLAIMED or DRIVEN (R118, R120). -/
structure OutputFits (r : OutputRecord) : Prop where
  unowned : r.owner = none → r.state ≠ .claimed ∧ r.state ≠ .driven
  defined : r.defined = false → r.state = .idle
  pulse : r.state = .driven ↔ r.pulseEnd ≠ none
  window : r.state = .releasing ↔ r.windowEnd ≠ none
  fault : r.state = .faulted ↔ r.fault ≠ none

/-- The outputs, permits and queue entries of slot k are those of the contents `x` (R120, R125, R126). -/
structure SlotFits (s : State) (k : Nat) (x : Slot) : Prop where
  steps : ∀ op, x.operation = some op →
    op.steps.Nodup ∧ 1 ≤ op.step ∧ op.step ≤ op.steps.length ∧ ∀ o ∈ op.steps, o < s.press.outputs.length
  gaps : ∀ op e, x = .gap op e → op.step < op.steps.length
  owned : ∀ o, (s.output o).owner = some k ↔
    ∃ op, x.operation = some op ∧ x.isWatching = false ∧ o ∈ op.steps
  stands : ∀ o op, (s.output o).owner = some k → x.operation = some op →
    (s.output o).state = if op.current = some o then x.drives else .claimed
  held : some k ∈ s.press.permits ↔ ∃ op, x = .driving op
  waiting : k ∈ s.press.queue ↔ ∃ op, x = .waiting op

/-- What holds of the unit as a whole. -/
structure UnitFits (s : State) : Prop where
  slots : s.press.slots.length = Config.pressSlots
  permits : s.press.permits.length = Config.permits
  outputs : ∀ o, OutputFits (s.output o)
  once : ∀ (p q k : Nat), s.press.permits[p]? = some (some k) → s.press.permits[q]? = some (some k) → p = q
  queued : s.press.queue.Nodup
  busy : s.press.queue ≠ [] → none ∉ s.press.permits

/-- On a part that does not operate nothing presses (R146). -/
def PressRests (s : State) : Prop :=
  s.power ≠ .operating → (∀ k, (s.slot k).operation = none) ∧ s.press.queue = [] ∧ ∀ k, some k ∉ s.press.permits

theorem pressSound_iff (s : State) :
    PressSound s ↔ UnitFits s ∧ PressRests s ∧ ∀ k, SlotFits s k (s.slot k) := by
  constructor
  · intro h
    exact ⟨⟨h.slots, h.permits, fun o => ⟨h.unowned o, h.defined o, h.pulses o, h.windows o, h.faults o⟩, h.once,
      h.queued, h.busy⟩, h.resting, fun k => ⟨h.steps k, h.gaps k, fun o => h.owned o k, fun o op => h.stands o k op,
      h.held k, h.waiting k⟩⟩
  · rintro ⟨u, rests, fits⟩
    exact ⟨u.slots, u.permits, rests, fun k => (fits k).steps, fun k => (fits k).gaps, fun o k => (fits k).owned o,
      fun o k op => (fits k).stands o op, fun o => (u.outputs o).unowned, fun o => (u.outputs o).defined,
      fun o => (u.outputs o).pulse, fun o => (u.outputs o).window, fun o => (u.outputs o).fault, fun k => (fits k).held,
      u.once, fun k => (fits k).waiting, u.queued, u.busy⟩

/-- The unit is sound but for slot k, whose operation is being moved on. -/
structure SoundBut (k : Nat) (s : State) : Prop where
  unit : UnitFits s
  operating : s.power = .operating
  others : ∀ j, j ≠ k → SlotFits s j (s.slot j)

theorem PressSound.unit {s : State} (h : PressSound s) : UnitFits s := ((pressSound_iff s).mp h).1

theorem PressSound.fits {s : State} (h : PressSound s) (k : Nat) : SlotFits s k (s.slot k) :=
  ((pressSound_iff s).mp h).2.2 k

/-- A part with an operation operates (R146). -/
theorem PressSound.operating {s : State} (h : PressSound s) {k : Nat} {op : Operation}
    (active : (s.slot k).operation = some op) : s.power = .operating := by
  by_contra off
  exact absurd ((h.resting off).1 k) (by simp [active])

theorem PressSound.but {s : State} (h : PressSound s) (k : Nat) (operating : s.power = .operating) : SoundBut k s :=
  ⟨h.unit, operating, fun j _ => h.fits j⟩

/-- The slot that was out of step fits again. -/
theorem SoundBut.sound {s : State} {k : Nat} (h : SoundBut k s) (own : SlotFits s k (s.slot k)) : PressSound s := by
  refine (pressSound_iff s).mpr ⟨h.unit, fun off => absurd h.operating off, fun j => ?_⟩
  by_cases e : j = k
  · rw [e]
    exact own
  · exact h.others j e

/-! ### What the parts rest on -/

theorem SlotFits.congr {s t : State} {k : Nat} {x : Slot} (outputs : t.press.outputs = s.press.outputs)
    (permits : some k ∈ t.press.permits ↔ some k ∈ s.press.permits)
    (queue : k ∈ t.press.queue ↔ k ∈ s.press.queue) (h : SlotFits s k x) : SlotFits t k x := by
  have output : ∀ o, t.output o = s.output o := fun o => by
    unfold State.output
    rw [outputs]
  exact ⟨by rw [outputs]; exact h.steps, h.gaps, by simpa only [output] using h.owned,
    by simpa only [output] using h.stands, permits.trans h.held, queue.trans h.waiting⟩

/-- A slot without an operation owns no output, holds no permit and waits for none. -/
theorem slotFits_of_none {s : State} {k : Nat} {x : Slot} (none : x.operation = none) :
    SlotFits s k x ↔ (∀ o, (s.output o).owner ≠ some k) ∧ some k ∉ s.press.permits ∧ k ∉ s.press.queue := by
  constructor
  · intro h
    refine ⟨fun o own => ?_, fun held => ?_, fun waits => ?_⟩
    · obtain ⟨op, active, -⟩ := (h.owned o).mp own
      exact absurd active (by simp [none])
    · obtain ⟨op, rfl⟩ := h.held.mp held
      exact absurd none (by simp [Slot.operation])
    · obtain ⟨op, rfl⟩ := h.waiting.mp waits
      exact absurd none (by simp [Slot.operation])
  · rintro ⟨owner, permits, queue⟩
    refine ⟨by simp [none], ?_, fun o => ⟨fun own => absurd own (owner o), by simp [none]⟩, by simp [none],
      ⟨fun held => absurd held permits, ?_⟩, ⟨fun waits => absurd waits queue, ?_⟩⟩
    · rintro op e rfl
      exact absurd none (by simp [Slot.operation])
    · rintro ⟨op, rfl⟩
      exact absurd none (by simp [Slot.operation])
    · rintro ⟨op, rfl⟩
      exact absurd none (by simp [Slot.operation])

theorem UnitFits.of_same {s t : State} (same : SamePress s t) (h : UnitFits s) : UnitFits t where
  slots := same.length.trans h.slots
  permits := by rw [same.permits]; exact h.permits
  outputs o := by rw [same.output]; exact h.outputs o
  once := by rw [same.permits]; exact h.once
  queued := by rw [same.queue]; exact h.queued
  busy := by rw [same.queue, same.permits]; exact h.busy

theorem SlotFits.of_same {s t : State} {k : Nat} (same : SamePress s t) (h : SlotFits s k (s.slot k)) :
    SlotFits t k (t.slot k) := by
  have moved : ∀ x, SlotFits s k x → SlotFits t k x := fun x hx =>
    hx.congr same.outputs (by rw [same.permits]) (by rw [same.queue])
  obtain e | ⟨a, b⟩ := same.slots k
  · rw [e]
    exact moved _ h
  · exact moved _ ((slotFits_of_none b).mpr ((slotFits_of_none a).mp h))

theorem PressSound.of_same {s t : State} (same : SamePress s t) (h : PressSound s) : PressSound t := by
  obtain ⟨unit, rests, fits⟩ := (pressSound_iff s).mp h
  refine (pressSound_iff t).mpr ⟨unit.of_same same, fun off => ?_, fun k => (fits k).of_same same⟩
  obtain ⟨slots, queue, permits⟩ := rests (same.power ▸ off)
  exact ⟨fun k => (same.operation k).trans (slots k), same.queue.trans queue, by rw [same.permits]; exact permits⟩

theorem SoundBut.of_same {s t : State} {k : Nat} (same : SamePress s t) (h : SoundBut k s) : SoundBut k t :=
  ⟨h.unit.of_same same, same.power.trans h.operating, fun j ne => (h.others j ne).of_same same⟩

/-! ### Outputs that are rewritten -/

theorem UnitFits.setOutputs {s : State} {rs : List OutputRecord} (h : UnitFits s)
    (fits : ∀ o, (s.setOutputs rs).output o = s.output o ∨ OutputFits ((s.setOutputs rs).output o)) :
    UnitFits (s.setOutputs rs) :=
  ⟨h.slots, h.permits, fun o => (fits o).elim (fun e => e ▸ h.outputs o) id, h.once, h.queued, h.busy⟩

/-- A slot stays in step where outputs are rewritten that are not its own before or after. -/
theorem SlotFits.setOutputs {s : State} {k : Nat} {x : Slot} {rs : List OutputRecord} (h : SlotFits s k x)
    (length : rs.length = s.press.outputs.length)
    (other : ∀ o, (s.setOutputs rs).output o = s.output o ∨
      ((s.output o).owner ≠ some k ∧ ((s.setOutputs rs).output o).owner ≠ some k)) :
        SlotFits (s.setOutputs rs) k x := by
  refine ⟨fun op active => ?_, h.gaps, fun o => ?_, fun o op owner active => ?_, h.held, h.waiting⟩
  · obtain ⟨nodup, lower, upper, range⟩ := h.steps op active
    exact ⟨nodup, lower, upper, fun o ho => length ▸ range o ho⟩
  · obtain e | ⟨before, after⟩ := other o
    · rw [e]
      exact h.owned o
    · exact ⟨fun no => absurd no after, fun yes => absurd ((h.owned o).mpr yes) before⟩
  · obtain e | ⟨-, after⟩ := other o
    · rw [e] at owner ⊢
      exact h.stands o op owner active
    · exact absurd owner after

/-- One output's record is what is written to it; the others stand. -/
theorem State.output_setOutput_cases (s : State) (o : Nat) (r : OutputRecord) (p : Nat) :
    (s.setOutput o r).output p = s.output p ∨ (o = p ∧ (s.setOutput o r).output p = r) := by
  rw [State.output_setOutput]
  split
  next c => exact .inr ⟨c.1, rfl⟩
  · exact .inl rfl

/-- An output without an owner may be rewritten, and stays without. -/
theorem PressSound.setOutput {s : State} {o : Nat} {r : OutputRecord} (h : PressSound s) (fits : OutputFits r)
    (before : (s.output o).owner = none) (after : r.owner = none) : PressSound (s.setOutput o r) := by
  obtain ⟨unit, rests, slots⟩ := (pressSound_iff s).mp h
  refine (pressSound_iff _).mpr
    ⟨unit.setOutputs fun p => ?_, rests, fun k => (slots k).setOutputs (by simp) fun p => ?_⟩
  · refine (s.output_setOutput_cases o r p).imp_right fun ⟨_, e⟩ => ?_
    unfold State.setOutput at e
    rw [e]
    exact fits
  · refine (s.output_setOutput_cases o r p).imp_right fun ⟨own, e⟩ => ?_
    unfold State.setOutput at e
    rw [e, ← own, before, after]
    exact ⟨nofun, nofun⟩

/-! ### The primitive updates while slot k moves on -/

namespace SoundBut

variable {s : State} {k : Nat}

/-- The slot's own contents may change. -/
theorem setSlot (h : SoundBut k s) (x : Slot) : SoundBut k (s.setSlot k x) where
  unit := ⟨by simpa using h.unit.slots, h.unit.permits, h.unit.outputs, h.unit.once, h.unit.queued, h.unit.busy⟩
  operating := h.operating
  others j ne := by
    rw [State.slot_setSlot_ne (Ne.symm ne)]
    exact SlotFits.congr (s := s) rfl .rfl .rfl (h.others j ne)

/-- Outputs may be rewritten that are the slot's own or nobody's, and stay so. -/
theorem setOutputs {rs : List OutputRecord} (h : SoundBut k s) (length : rs.length = s.press.outputs.length)
    (own : ∀ o, (s.setOutputs rs).output o = s.output o ∨
      (OutputFits ((s.setOutputs rs).output o) ∧ (∀ j, j ≠ k → (s.output o).owner ≠ some j) ∧
        ∀ j, j ≠ k → ((s.setOutputs rs).output o).owner ≠ some j)) : SoundBut k (s.setOutputs rs) where
  unit := h.unit.setOutputs fun o => (own o).imp_right (·.1)
  operating := h.operating
  others j ne := (h.others j ne).setOutputs length fun o => (own o).imp_right fun ⟨_, before, after⟩ =>
    ⟨before j ne, after j ne⟩

theorem setOutput {o : Nat} {r : OutputRecord} (h : SoundBut k s) (fits : OutputFits r)
    (before : ∀ j, j ≠ k → (s.output o).owner ≠ some j) (after : ∀ j, j ≠ k → r.owner ≠ some j) :
    SoundBut k (s.setOutput o r) := by
  refine h.setOutputs (by simp) fun p => (s.output_setOutput_cases o r p).imp_right fun ⟨own, e⟩ => ?_
  unfold State.setOutput at e
  rw [e]
  exact ⟨fits, own ▸ before, after⟩

/-- The slot leaves the queue. -/
theorem leaveQueue (h : SoundBut k s) : SoundBut k (s.leaveQueue k) where
  unit := ⟨h.unit.slots, h.unit.permits, h.unit.outputs, h.unit.once, h.unit.queued.filter _, fun waits =>
    h.unit.busy (fun none => waits (by simp [State.leaveQueue, State.setQueue, none]))⟩
  operating := h.operating
  others j ne := SlotFits.congr (s := s) rfl .rfl (by simp [State.leaveQueue, State.setQueue, ne]) (h.others j ne)

end SoundBut

/-! ### Permits -/

theorem State.permits_once {s : State} (h : UnitFits s) {p k : Nat} (at' : s.press.permits[p]? = some (some k))
    {j : Nat}
    {v : Option Nat} : some j ∈ s.press.permits.set p v ↔ v = some j ∨ (j ≠ k ∧ some j ∈ s.press.permits) := by
  have place : p < s.press.permits.length := (List.getElem?_eq_some_iff.mp at').1
  constructor
  · intro mem
    obtain ⟨q, hq⟩ := List.mem_iff_getElem?.mp mem
    rw [List.getElem?_set] at hq
    split at hq
    · exact .inl (by simpa [place] using hq)
    next ne =>
      refine .inr ⟨?_, List.mem_iff_getElem?.mpr ⟨q, hq⟩⟩
      rintro rfl
      exact ne (h.once _ _ _ at' hq)
  · rintro (rfl | ⟨ne, mem⟩)
    · exact List.mem_iff_getElem?.mpr ⟨p, by simp [place]⟩
    · obtain ⟨q, hq⟩ := List.mem_iff_getElem?.mp mem
      refine List.mem_iff_getElem?.mpr ⟨q, ?_⟩
      rw [List.getElem?_set_ne, hq]
      rintro rfl
      rw [at'] at hq
      exact ne (by simpa using hq.symm)

/-- An operation whose next step is due: its outputs are CLAIMED, it holds no permit and does not wait (R126, R132). -/
structure StepReady (s : State) (k : Nat) (op : Operation) : Prop where
  steps : op.steps.Nodup ∧ 1 ≤ op.step ∧ op.step ≤ op.steps.length ∧ ∀ o ∈ op.steps, o < s.press.outputs.length
  owned : ∀ o, (s.output o).owner = some k ↔ o ∈ op.steps
  claimed : ∀ o ∈ op.steps, (s.output o).state = .claimed
  unheld : some k ∉ s.press.permits
  unqueued : k ∉ s.press.queue

/-- The step of slot k closes its line with permit p (R128). -/
def State.drive (s : State) (p k o : Nat) (op : Operation) : State :=
  ((s.setOutput o { s.output o with state := .driven, pulseEnd := some (s.time + (s.output o).pulse) }).setSlot k
    (.driving op)).setPermit p (some k)

theorem State.grant_of_active {s : State} {k o : Nat} {op : Operation} (active : (s.slot k).operation = some op)
    (current : op.current = some o) (p : Nat) : s.grant p k = s.drive p k o op := by
  simp [State.grant, State.drive, active, current]

theorem Operation.current_of_valid {op : Operation} (lower : 1 ≤ op.step) (upper : op.step ≤ op.steps.length) :
    ∃ o ∈ op.steps, op.current = some o := by
  have place : op.step - 1 < op.steps.length := by omega
  exact ⟨op.steps[op.step - 1], List.getElem_mem place, List.getElem?_eq_getElem place⟩

theorem OutputFits.driven {r : OutputRecord} (h : OutputFits r) (claimed : r.state = .claimed) (owner : r.owner ≠ none)
    (e : Stamp) : OutputFits { r with state := .driven, pulseEnd := some e } where
  unowned no := absurd no owner
  defined no := absurd (h.defined no) (by simp [claimed])
  pulse := by simp
  window := by
    have : r.windowEnd = none := by
      by_contra running
      exact absurd (h.window.mpr running) (by simp [claimed])
    simp [this]
  fault := by
    have : r.fault = none := by
      by_contra faulted
      exact absurd (h.fault.mpr faulted) (by simp [claimed])
    simp [this]

section Drive

variable {s : State} {p k o : Nat} {op : Operation}

theorem State.drive_output (place : o < s.press.outputs.length) (q : Nat) : (s.drive p k o op).output q =
    if o = q then { s.output o with state := .driven, pulseEnd := some (s.time + (s.output o).pulse) }
    else s.output q := by
  unfold State.drive
  rw [State.output_setPermit, State.output_setSlot, State.output_setOutput]
  simp [place]

theorem State.drive_slot (j : Nat) : (s.drive p k o op).slot j =
    if k = j ∧ k < s.press.slots.length then .driving op else s.slot j := by
  unfold State.drive
  rw [State.slot_setPermit, State.slot_setSlot]
  rfl

/-- A granted step leaves the other slots in step, where the permit was not theirs. -/
theorem SlotFits.drive {j : Nat} {x : Slot} (place : o < s.press.outputs.length) (owner : (s.output o).owner = some k)
    (ne : j ≠ k) (permits : some j ∈ s.press.permits.set p (some k) ↔ some j ∈ s.press.permits)
    (h : SlotFits s j x) : SlotFits (s.drive p k o op) j x := by
  have owners : ∀ q, ((s.drive p k o op).output q).owner = (s.output q).owner := by
    intro q
    rw [State.drive_output place]
    split
    next e => rw [← e]
    · rfl
  refine ⟨fun op active => ?_, h.gaps, fun q => by rw [owners]; exact h.owned q, fun q op own active => ?_,
    permits.trans h.held, h.waiting⟩
  · obtain ⟨nodup, lower, upper, range⟩ := h.steps op active
    exact ⟨nodup, lower, upper, fun q hq => by simpa [State.drive] using range q hq⟩
  · rw [owners] at own
    rw [State.drive_output place]
    split
    next e =>
      rw [← e, owner] at own
      exact absurd (Option.some.inj own).symm ne
    · exact h.stands q op own active

/-- A granted step is in step. -/
theorem StepReady.drive (place : p < s.press.permits.length) (current : op.current = some o) (h : StepReady s k op) :
    SlotFits (s.drive p k o op) k (.driving op) := by
  have mem : o ∈ op.steps := List.mem_of_getElem? current
  have range := h.steps.2.2.2 o mem
  have owners : ∀ q, ((s.drive p k o op).output q).owner = (s.output q).owner := by
    intro q
    rw [State.drive_output range]
    split
    next e => rw [← e]
    · rfl
  refine ⟨?_, (fun _ _ no => nomatch no), fun q => ?_, fun q op' own active => ?_, ?_, ?_⟩
  · rintro op' ⟨rfl⟩
    obtain ⟨nodup, lower, upper, range⟩ := h.steps
    exact ⟨nodup, lower, upper, fun q hq => by simpa [State.drive] using range q hq⟩
  · rw [owners, h.owned]
    exact ⟨fun hq => ⟨op, rfl, rfl, hq⟩, fun ⟨op', e, _, hq⟩ => by obtain rfl := Option.some.inj e; exact hq⟩
  · obtain rfl := Option.some.inj active
    rw [owners, h.owned] at own
    rw [State.drive_output range, current]
    by_cases e : o = q
    · rw [if_pos e, if_pos (by rw [e])]
      rfl
    · rw [if_neg e, if_neg (by simpa using e)]
      exact h.claimed q own
  · refine ⟨fun _ => ⟨op, rfl⟩, fun _ => List.mem_iff_getElem?.mpr ⟨p, ?_⟩⟩
    simp [State.drive, place]
  · exact ⟨(fun waits => absurd waits h.unqueued), (fun ⟨_, no⟩ => nomatch no)⟩

/-- The unit stands through a grant, where the slot holds no other permit. -/
theorem UnitFits.drive {p' : Nat} (h : UnitFits s) (place : o < s.press.outputs.length)
    (claimed : (s.output o).state = .claimed) (owner : (s.output o).owner = some k)
    (only : ∀ q : Nat, q ≠ p' → s.press.permits[q]? ≠ some (some k)) : UnitFits (s.drive p' k o op) where
  slots := by simpa [State.drive] using h.slots
  permits := by simpa [State.drive] using h.permits
  outputs q := by
    rw [State.drive_output place]
    split
    · exact (h.outputs o).driven claimed (by simp [owner]) _
    · exact h.outputs q
  once q r j hq hr := by
    have permits : (s.drive p' k o op).press.permits = s.press.permits.set p' (some k) := rfl
    rw [permits, List.getElem?_set] at hq hr
    split at hq <;> split at hr
    · omega
    next e ne =>
      split at hq
      · obtain rfl : k = j := by simpa using hq
        exact absurd hr (only r (Ne.symm ne))
      · exact absurd hq (by simp)
    next ne e =>
      split at hr
      · obtain rfl : k = j := by simpa using hr
        exact absurd hq (only q (Ne.symm ne))
      · exact absurd hr (by simp)
    · exact h.once q r j hq hr
  queued := h.queued
  busy waits none := by
    obtain mem | e := List.mem_or_eq_of_mem_set (show Option.none ∈ s.press.permits.set p' (some k) from none)
    · exact h.busy waits mem
    · exact nomatch e

end Drive

/-! ### A step that becomes due -/

theorem State.slot_lt {s : State} {k : Nat} {op : Operation} (active : (s.slot k).operation = some op) :
    k < s.press.slots.length := by
  by_contra beyond
  rw [State.slot, List.getD_eq_getElem?_getD, List.getElem?_eq_none (Nat.le_of_not_lt beyond)] at active
  exact nomatch active

theorem findIdx?_permit_some {permits : List (Option Nat)} {v : Option Nat} {p : Nat}
    (h : permits.findIdx? (· = v) = some p) : permits[p]? = some v := by
  obtain ⟨place, here, -⟩ := List.findIdx?_eq_some_iff_getElem.mp h
  rw [List.getElem?_eq_getElem place, of_decide_eq_true here]

theorem findIdx?_permit_none {permits : List (Option Nat)} {v : Option Nat} (h : permits.findIdx? (· = v) = none) :
    v ∉ permits := fun mem => by
  have := List.findIdx?_eq_none_iff.mp h v mem
  simp at this

/-- A step that becomes due is granted a permit, or waits for one; the unit is sound again (R126). -/
theorem SoundBut.stepDue {s : State} {k : Nat} {op : Operation} (h : SoundBut k s) (ready : StepReady s k op)
    (place : k < s.press.slots.length) : PressSound (s.stepDue k op) := by
  have waits := h.setSlot (.waiting op)
  have here : (s.setSlot k (.waiting op)).slot k = .waiting op := State.slot_setSlot_self place
  have ready' : StepReady (s.setSlot k (.waiting op)) k op :=
    ⟨ready.steps, ready.owned, ready.claimed, ready.unheld, ready.unqueued⟩
  unfold State.stepDue
  split
  next p queue free =>
    obtain ⟨o, mem, current⟩ := Operation.current_of_valid ready.steps.2.1 ready.steps.2.2.1
    rw [State.grant_of_active (by rw [here]; rfl) current]
    have at' : s.press.permits[p]? = some none := findIdx?_permit_some free
    have range : p < s.press.permits.length := (List.getElem?_eq_some_iff.mp at').1
    have owner : (s.output o).owner = some k := (ready.owned o).mpr mem
    refine (pressSound_iff _).mpr ⟨waits.unit.drive (ready.steps.2.2.2 o mem) (ready.claimed o mem) owner ?_,
      fun off => absurd h.operating off, fun j => ?_⟩
    · exact fun q _ hq => ready.unheld (List.mem_iff_getElem?.mpr ⟨q, hq⟩)
    · rw [State.drive_slot]
      by_cases e : k = j
      · subst e
        rw [if_pos ⟨rfl, by simpa using place⟩]
        exact ready'.drive range current
      · rw [if_neg (fun c => e c.1)]
        refine (waits.others j (Ne.symm e)).drive (ready.steps.2.2.2 o mem) owner (Ne.symm e) ?_
        constructor
        · intro hm
          obtain hm | no := List.mem_or_eq_of_mem_set hm
          · exact hm
          · exact absurd (Option.some.inj no).symm e
        · intro hm
          obtain ⟨q, hq⟩ := List.mem_iff_getElem?.mp hm
          refine List.mem_iff_getElem?.mpr ⟨q, ?_⟩
          rw [List.getElem?_set_ne, hq]
          rintro rfl
          rw [show (s.setSlot k (.waiting op)).press.permits = s.press.permits from rfl, at'] at hq
          exact nomatch hq
  next blocked =>
    have full : none ∉ s.press.permits := by
      by_cases queue : s.press.queue = []
      · intro free
        have found : (s.press.permits.findIdx? (· = none)).isSome = true := by
          rw [List.findIdx?_isSome]
          exact List.any_eq_true.mpr ⟨none, free, by simp⟩
        obtain ⟨p, hp⟩ := Option.isSome_iff_exists.mp found
        exact blocked p queue hp
      · exact h.unit.busy queue
    have queue : ((s.setSlot k (.waiting op)).setQueue (s.press.queue ++ [k])).press.queue = s.press.queue ++ [k] := rfl
    refine (pressSound_iff _).mpr ⟨⟨waits.unit.slots, waits.unit.permits, waits.unit.outputs, waits.unit.once, ?_,
      fun _ => full⟩, fun off => absurd h.operating off, fun j => ?_⟩
    · rw [queue]
      exact List.nodup_append.mpr ⟨h.unit.queued, by simp, by
        rintro a ha b hb rfl
        obtain rfl := List.mem_singleton.mp hb
        exact ready.unqueued ha⟩
    · rw [State.slot_setQueue]
      by_cases e : j = k
      · subst e
        rw [here]
        refine ⟨?_, (fun _ _ no => nomatch no), fun o => ?_, fun o op' own active => ?_, ?_, ?_⟩
        · rintro op' ⟨rfl⟩
          exact ready.steps
        · exact (ready.owned o).trans ⟨fun mem => ⟨op, rfl, rfl, mem⟩, fun ⟨op', e, _, mem⟩ => by
            obtain rfl := Option.some.inj e
            exact mem⟩
        · obtain rfl := Option.some.inj active
          simp only [Slot.drives, ite_self]
          exact ready.claimed o ((ready.owned o).mp own)
        · exact ⟨(fun held => absurd held ready.unheld), (fun ⟨_, no⟩ => nomatch no)⟩
        · exact ⟨fun _ => ⟨op, rfl⟩, fun _ => by simp⟩
      · exact SlotFits.congr (s := s.setSlot k (.waiting op)) rfl .rfl (by simp [State.setQueue, e]) (waits.others j e)

end Sys2Proof.Machine
end

section
/-! PROOFS. In a sound press unit: a permit that is released goes to the head of the queue (R127), and an operation that
ends leaves the unit sound (R138, R140). -/

namespace Sys2Proof.Machine

/-! ### A permit that is released -/

/-- What a permit's release leaves: the unit is sound but for slot k, which holds no permit and does not wait; the other
outputs than those of the granted slot stand (R127). -/
structure PermitReleased (k : Nat) (s t : State) : Prop where
  but : SoundBut k t
  unheld : some k ∉ t.press.permits
  unqueued : k ∉ t.press.queue
  slot : t.slot k = s.slot k
  length : t.press.outputs.length = s.press.outputs.length
  slots : t.press.slots.length = s.press.slots.length
  outputs : ∀ o, t.output o = s.output o ∨ ∃ j, j ≠ k ∧ (s.output o).owner = some j ∧ (t.output o).owner = some j

theorem PermitReleased.output {s t : State} {k o : Nat} (h : PermitReleased k s t)
    (own : ∀ j, j ≠ k → (s.output o).owner ≠ some j) : t.output o = s.output o :=
  (h.outputs o).elim id fun ⟨j, ne, owner, _⟩ => absurd owner (own j ne)

theorem PermitReleased.output_of_owner {s t : State} {k o : Nat} (h : PermitReleased k s t)
    (own : (t.output o).owner = some k) : t.output o = s.output o :=
  (h.outputs o).elim id fun ⟨_, ne, _, owner⟩ => absurd (Option.some.inj (owner.symm.trans own)) ne

/-- The slot at the head of the queue is ready for its permit once it has left the queue. -/
theorem SoundBut.head_ready {s : State} {k g : Nat} {tail : List Nat} (h : SoundBut k s) (unqueued : k ∉ s.press.queue)
    (queue : s.press.queue = g :: tail) :
    g ≠ k ∧ ∃ o op, s.slot g = .waiting op ∧ op.current = some o ∧ o ∈ op.steps ∧ StepReady (s.setQueue tail) g op := by
  have ne : g ≠ k := fun e => unqueued (by rw [queue, e]; exact List.mem_cons_self)
  have fits := h.others g ne
  obtain ⟨op, slot⟩ := fits.waiting.mp (by rw [queue]; exact List.mem_cons_self)
  rw [slot] at fits
  obtain ⟨nodup, lower, upper, places⟩ := fits.steps op rfl
  obtain ⟨o, mem, current⟩ := Operation.current_of_valid lower upper
  have owned : ∀ q, (s.output q).owner = some g ↔ q ∈ op.steps := fun q => (fits.owned q).trans
    ⟨fun ⟨op', e, _, hq⟩ => by obtain rfl := Option.some.inj e; exact hq, fun hq => ⟨op, rfl, rfl, hq⟩⟩
  refine ⟨ne, o, op, slot, current, mem, ⟨nodup, lower, upper, places⟩, owned, fun q hq => ?_, fun held => ?_,
    (List.nodup_cons.mp (queue ▸ h.unit.queued)).1⟩
  · have := fits.stands q op ((owned q).mpr hq) rfl
    simpa [Slot.drives] using this
  · obtain ⟨_, no⟩ := fits.held.mp held
    exact nomatch no

/-- The head of the queue is granted the permit that slot k gives back. -/
theorem SoundBut.grantHead {s : State} {k p g : Nat} {tail : List Nat} (h : SoundBut k s) (unqueued : k ∉ s.press.queue)
    (at' : s.press.permits[p]? = some (some k)) (queue : s.press.queue = g :: tail) :
    PermitReleased k s (((s.setPermit p none).setQueue tail).grant p g) := by
  obtain ⟨ne, o, op, slot, current, mem, ready⟩ := h.head_ready unqueued queue
  have place : o < s.press.outputs.length := ready.steps.2.2.2 o mem
  have owner : (s.output o).owner = some g := (ready.owned o).mpr mem
  have range : p < s.press.permits.length := (List.getElem?_eq_some_iff.mp at').1
  have granted : ((s.setPermit p none).setQueue tail).grant p g = (s.setQueue tail).drive p g o op := by
    rw [State.grant_of_active (s := (s.setPermit p none).setQueue tail) (k := g) (op := op)
      (by rw [State.slot_setQueue, State.slot_setPermit, slot]; rfl) current]
    simp [State.drive, State.setPermit, State.setQueue, State.setOutput, State.setOutputs, State.setSlot, State.output]
  have permits : ((s.setQueue tail).drive p g o op).press.permits = s.press.permits.set p (some g) := rfl
  have unit : UnitFits (s.setQueue tail) := ⟨h.unit.slots, h.unit.permits, h.unit.outputs, h.unit.once,
    (List.nodup_cons.mp (queue ▸ h.unit.queued)).2, fun _ => h.unit.busy (by simp [queue])⟩
  rw [granted]
  refine ⟨⟨unit.drive place (ready.claimed o mem) owner ?_, h.operating, fun j other => ?_⟩, ?_,
    fun m => unqueued (by rw [queue]; exact List.mem_cons_of_mem _ m), ?_, by simp [State.drive, State.setQueue],
    by simp [State.drive, State.setQueue], fun q => ?_⟩
  · exact fun q _ hq => ready.unheld (List.mem_iff_getElem?.mpr ⟨q, hq⟩)
  · rw [State.drive_slot]
    by_cases e : g = j
    · subst e
      rw [if_pos ⟨rfl, State.slot_lt (op := op) (by simp [slot, Slot.operation])⟩]
      exact ready.drive range current
    · rw [if_neg (fun c => e c.1)]
      have fits : SlotFits (s.setQueue tail) j (s.slot j) :=
        SlotFits.congr (s := s) rfl .rfl (by simp [State.setQueue, queue, Ne.symm e]) (h.others j other)
      refine fits.drive place owner (Ne.symm e) ?_
      exact (State.permits_once h.unit at').trans (by simp [e, other])
  · rw [permits, State.permits_once h.unit at']
    simp [ne]
  · rw [State.drive_slot, if_neg (fun c => ne c.1)]
    rfl
  · rw [State.drive_output (s := s.setQueue tail) place]
    split
    next e => exact .inr ⟨g, ne, e ▸ owner, owner⟩
    · exact .inl rfl

/-- The permit of a slot that moves on goes to the head of the queue or becomes free (R127). -/
theorem SoundBut.releasePermit {s : State} {k : Nat} (h : SoundBut k s) (unqueued : k ∉ s.press.queue) :
    PermitReleased k s (s.releasePermit k) := by
  unfold State.releasePermit
  split
  next none => exact ⟨h, findIdx?_permit_none none, unqueued, rfl, rfl, rfl, fun _ => .inl rfl⟩
  next p found =>
    have at' := findIdx?_permit_some found
    split
    next empty =>
      refine ⟨⟨⟨h.unit.slots, by simpa using h.unit.permits, h.unit.outputs, fun q r j hq hr => ?_, h.unit.queued,
        fun waits => absurd empty waits⟩, h.operating, fun j ne => ?_⟩, fun mem => ?_, unqueued, rfl, rfl, rfl,
        fun _ => .inl rfl⟩
      · have permits : (s.setPermit p none).press.permits = s.press.permits.set p none := rfl
        rw [permits, List.getElem?_set] at hq hr
        split at hq
        · simp at hq
        · split at hr
          · simp at hr
          · exact h.unit.once q r j hq hr
      · exact SlotFits.congr (s := s) rfl ((State.permits_once h.unit at').trans (by simp [ne])) .rfl (h.others j ne)
      · simpa using (State.permits_once h.unit at').mp mem
    next g tail queue => exact h.grantHead unqueued at' queue

/-! ### An operation that ends -/

/-- The operation of slot k may end: its outputs are in work, it drives one at most, a permit it holds goes with that
one, and it does not wait while it drives (R138). -/
structure Leaving (k : Nat) (s : State) : Prop where
  but : SoundBut k s
  works : ∀ o, (s.output o).owner = some k →
    (s.output o).state = .claimed ∨ (s.output o).state = .driven ∨ (s.output o).state = .releasing
  one : ∀ o p, (s.output o).owner = some k → (s.output o).state = .driven → (s.output p).owner = some k →
    (s.output p).state = .driven → o = p
  permit : some k ∈ s.press.permits → ∃ o, (s.output o).owner = some k ∧ (s.output o).state = .driven
  queue : k ∈ s.press.queue → ∀ o, (s.output o).owner = some k → (s.output o).state ≠ .driven

theorem OutputFits.toIdle {r : OutputRecord} (h : OutputFits r) (sound : r.state ≠ .faulted) : OutputFits r.toIdle where
  unowned _ := by simp [OutputRecord.toIdle]
  defined _ := rfl
  pulse := by simp [OutputRecord.toIdle]
  window := by simp [OutputRecord.toIdle]
  fault := by
    have : r.fault = none := by
      by_contra faulted
      exact sound (h.fault.mpr faulted)
    simp [OutputRecord.toIdle, this]

/-- An output that opens its line with its operation gone stays RELEASING without an owner (R138 step 2). -/
theorem OutputFits.release {r : OutputRecord} (h : OutputFits r) (defined : r.defined = true)
    (sound : r.state ≠ .faulted)
    (e : Stamp) : OutputFits { r.toIdle with state := .releasing, windowEnd := some e } where
  unowned _ := by simp
  defined no := absurd (defined.symm.trans no) (by simp)
  pulse := by simp [OutputRecord.toIdle]
  window := by simp
  fault := by simpa [OutputRecord.toIdle] using (h.toIdle sound).fault

theorem OutputFits.disowned {r : OutputRecord} (h : OutputFits r) (releasing : r.state = .releasing) :
    OutputFits { r with owner := none } where
  unowned _ := by simp [releasing]
  defined := h.defined
  pulse := h.pulse
  window := h.window
  fault := h.fault

theorem OutputFits.defined_of_active {r : OutputRecord} (h : OutputFits r) (active : r.state ≠ .idle) :
    r.defined = true := by
  by_contra no
  exact active (h.defined (by simpa using no))

theorem State.output_lt {s : State} {o : Nat} (active : (s.output o).state ≠ .idle) : o < s.press.outputs.length := by
  by_contra beyond
  rw [State.output, List.getD_eq_getElem?_getD, List.getElem?_eq_none (Nat.le_of_not_lt beyond)] at active
  exact active rfl

/-- The outputs after a change of each that leaves an undefined record. -/
theorem State.output_mapOutputs (s : State) {f : OutputRecord → OutputRecord} (rest : f .undefined = .undefined)
    (o : Nat) :
    (s.setOutputs (s.press.outputs.map f)).output o = f (s.output o) := by
  simp only [State.output, State.setOutputs_press, List.getD_eq_getElem?_getD, List.getElem?_map]
  cases s.press.outputs[o]? with
  | none => simp [rest]
  | some r => rfl

theorem State.unclaim_output (s : State) (k o : Nat) : (s.unclaim k).output o =
    if (s.output o).owner = some k ∧ (s.output o).state = .claimed then (s.output o).toIdle else s.output o :=
  s.output_mapOutputs (f := fun r => if r.owner = some k ∧ r.state = .claimed then r.toIdle else r)
    (by simp [OutputRecord.undefined]) o

theorem State.disown_output (s : State) (k o : Nat) : (s.disown k).output o =
    if (s.output o).owner = some k ∧ (s.output o).state = .releasing then { s.output o with owner := none }
    else s.output o :=
  s.output_mapOutputs (f := fun r => if r.owner = some k ∧ r.state = .releasing then { r with owner := none } else r)
    (by simp [OutputRecord.undefined]) o

/-- An output owned by slot k is no other slot's. -/
theorem owner_ne_other {s : State} {k o : Nat} (own : (s.output o).owner = some k) (j : Nat) (ne : j ≠ k) :
    (s.output o).owner ≠ some j := by
  rw [own]
  exact fun e => ne (Option.some.inj e).symm

theorem SoundBut.unclaim {s : State} {k : Nat} (h : SoundBut k s) : SoundBut k (s.unclaim k) := by
  refine h.setOutputs (by simp) fun o => ?_
  have e := s.unclaim_output k o
  by_cases c : (s.output o).owner = some k ∧ (s.output o).state = .claimed
  · rw [if_pos c] at e
    unfold State.unclaim at e
    rw [e]
    exact .inr ⟨(h.unit.outputs o).toIdle (by simp [c.2]), owner_ne_other c.1, by simp [OutputRecord.toIdle]⟩
  · rw [if_neg c] at e
    exact .inl e

theorem SoundBut.disown {s : State} {k : Nat} (h : SoundBut k s) : SoundBut k (s.disown k) := by
  refine h.setOutputs (by simp) fun o => ?_
  have e := s.disown_output k o
  by_cases c : (s.output o).owner = some k ∧ (s.output o).state = .releasing
  · rw [if_pos c] at e
    unfold State.disown at e
    rw [e]
    exact .inr ⟨(h.unit.outputs o).disowned c.2, owner_ne_other c.1, by simp⟩
  · rw [if_neg c] at e
    exact .inl e

namespace Leaving

variable {s : State} {k : Nat}

theorem unclaim (h : Leaving k s) :
    Leaving k (s.unclaim k) ∧ ∀ o, ((s.unclaim k).output o).owner = some k →
      ((s.unclaim k).output o).state ≠ .claimed := by
  have kept : ∀ o, ((s.unclaim k).output o).owner = some k →
      (s.unclaim k).output o = s.output o ∧ (s.output o).state ≠ .claimed := by
    intro o own
    rw [State.unclaim_output] at own ⊢
    split at own
    · simp [OutputRecord.toIdle] at own
    next c =>
      rw [if_neg c]
      exact ⟨rfl, fun e => c ⟨own, e⟩⟩
  refine ⟨⟨h.but.unclaim, fun o own => ?_, fun o p ho so hp sp => ?_, fun held => ?_, fun waits o own => ?_⟩,
    fun o own => ?_⟩
  · obtain ⟨e, -⟩ := kept o own
    rw [e] at own ⊢
    exact h.works o own
  · obtain ⟨e, -⟩ := kept o ho
    obtain ⟨f, -⟩ := kept p hp
    rw [e] at ho so
    rw [f] at hp sp
    exact h.one o p ho so hp sp
  · obtain ⟨o, own, driven⟩ := h.permit held
    refine ⟨o, ?_⟩
    rw [State.unclaim_output, if_neg (by simp [driven])]
    exact ⟨own, driven⟩
  · obtain ⟨e, -⟩ := kept o own
    rw [e] at own ⊢
    exact h.queue waits o own
  · obtain ⟨e, ne⟩ := kept o own
    rwa [e]

end Leaving

/-- What the end of an operation leaves before its last steps: slot k holds no permit and its outputs are RELEASING. -/
structure LeftReleasing (k : Nat) (s : State) : Prop where
  but : SoundBut k s
  releasing : ∀ o, (s.output o).owner = some k → (s.output o).state = .releasing
  unheld : some k ∉ s.press.permits

/-- No output is found that slot k drives: it drives none. -/
theorem State.drivenOutput_none (s : State) {k : Nat}
    (none : s.press.outputs.findIdx? (fun r => r.owner = some k ∧ r.state = .driven) = none) (o : Nat)
    (own : (s.output o).owner = some k) : (s.output o).state ≠ .driven := by
  intro driven
  have place : o < s.press.outputs.length := State.output_lt (by simp [driven])
  have := List.findIdx?_eq_none_iff.mp none (s.output o)
    (by rw [State.output, List.getD_eq_getElem _ _ place]; exact List.getElem_mem place)
  simp [own, driven] at this

/-- The output found for slot k is one that it drives. -/
theorem State.drivenOutput_some (s : State) {k o : Nat}
    (found : s.press.outputs.findIdx? (fun r => r.owner = some k ∧ r.state = .driven) = some o) :
    (s.output o).owner = some k ∧ (s.output o).state = .driven := by
  obtain ⟨place, own, -⟩ := List.findIdx?_eq_some_iff_getElem.mp found
  rw [State.output, List.getD_eq_getElem _ _ place]
  simpa using own

theorem State.cutOff_slots (s : State) (k o : Nat) (stamp : Stamp) :
    (s.cutOff k o stamp).press.slots.length = s.press.slots.length := by
  have permit :=
    (slotsLength_kept s.press.slots.length).releasePermit (s := s.setOutput o (s.output o).toIdle) (k := k) rfl
  unfold State.cutOff
  dsimp only
  split
  · exact permit
  · split
    · split
      · exact permit
      · exact permit
    · exact permit

/-- The output that slot k drives opens its line (R138 step 2, R140). -/
theorem Leaving.cutOff {s : State} {k o : Nat} {stamp : Stamp} (h : Leaving k s)
    (unclaimed : ∀ o, (s.output o).owner = some k → (s.output o).state ≠ .claimed) (own : (s.output o).owner = some k)
    (driven : (s.output o).state = .driven) : LeftReleasing k (s.cutOff k o stamp) := by
  have fits := h.but.unit.outputs o
  have place : o < s.press.outputs.length := State.output_lt (by simp [driven])
  have idle : SoundBut k (s.setOutput o (s.output o).toIdle) :=
    h.but.setOutput (fits.toIdle (by simp [driven])) (owner_ne_other own) (by simp [OutputRecord.toIdle])
  have permit := idle.releasePermit (fun waits => h.queue waits o own driven)
  have here : ((s.setOutput o (s.output o).toIdle).releasePermit k).output o = (s.output o).toIdle := by
    rw [permit.output (by rw [State.output_setOutput_self place]; simp [OutputRecord.toIdle])]
    exact State.output_setOutput_self place
  have releasing : ∀ q, q ≠ o → (((s.setOutput o (s.output o).toIdle).releasePermit k).output q).owner = some k →
      (((s.setOutput o (s.output o).toIdle).releasePermit k).output q).state = .releasing := by
    intro q ne hq
    have same := (permit.output_of_owner hq).trans (State.output_setOutput_ne (Ne.symm ne))
    rw [same] at hq ⊢
    obtain claimed | drives | releasing := h.works q hq
    · exact absurd claimed (unclaimed q hq)
    · exact absurd (h.one q o hq drives own driven) ne
    · exact releasing
  have left : LeftReleasing k ((s.setOutput o (s.output o).toIdle).releasePermit k) := by
    refine ⟨permit.but, fun q hq => ?_, permit.unheld⟩
    by_cases e : q = o
    · rw [e, here] at hq
      simp [OutputRecord.toIdle] at hq
    · exact releasing q e hq
  have opened : LeftReleasing k (((s.setOutput o (s.output o).toIdle).releasePermit k).setOutput o
      { (s.output o).toIdle with state := .releasing, windowEnd := some (stamp + Config.releaseWindow) }) := by
    refine ⟨permit.but.setOutput (fits.release (fits.defined_of_active (by simp [driven])) (by simp [driven]) _)
      (by rw [here]; simp [OutputRecord.toIdle]) (by simp [OutputRecord.toIdle]), fun q hq => ?_, permit.unheld⟩
    rw [State.output_setOutput] at hq ⊢
    split
    · rfl
    next c =>
      rw [if_neg c] at hq
      exact left.releasing q hq
  unfold State.cutOff
  dsimp only
  split
  · exact left
  · split
    · split
      · exact opened
      · exact left
    · exact opened

/-- The outputs that still release lose their owner, the slot leaves the queue and is ENDED: the unit is sound (R138).
-/
theorem LeftReleasing.ended {s : State} {k tag : Nat} {rep : EndReport} (h : LeftReleasing k s)
    (place : k < s.press.slots.length) : PressSound (((s.disown k).leaveQueue k).handPressEnd k tag rep) := by
  have but := h.but.disown.leaveQueue
  refine PressSound.of_same (State.handPressEnd_samePress _ _ _ _) ((but.setSlot _).sound ?_)
  rw [State.slot_setSlot_self (s := (s.disown k).leaveQueue k) place]
  refine (slotFits_of_none rfl).mpr ⟨fun o => ?_, h.unheld, by simp [State.leaveQueue, State.setQueue]⟩
  rw [State.output_setSlot, State.leaveQueue, State.output_setQueue, State.disown_output]
  split
  · simp
  next c => exact fun own => c ⟨own, h.releasing o own⟩

/-- The end of an operation leaves the unit sound (R138). -/
theorem Leaving.endOperation {s : State} {k : Nat} {op : Operation} {rep : EndReport} (h : Leaving k s)
    (active : (s.slot k).operation = some op) : PressSound (s.endOperation k rep) := by
  obtain ⟨left, unclaimed⟩ := h.unclaim
  have place : k < (s.unclaim k).press.slots.length := State.slot_lt active
  unfold State.endOperation
  simp only [active]
  unfold State.cutOffDriven
  split
  next none =>
    have drives := (s.unclaim k).drivenOutput_none none
    refine LeftReleasing.ended (s := s.unclaim k) ⟨left.but, fun o own => ?_, fun held => ?_⟩ place
    · obtain claimed | driven | releasing := left.works o own
      · exact absurd claimed (unclaimed o own)
      · exact absurd driven (drives o own)
      · exact releasing
    · obtain ⟨o, own, driven⟩ := left.permit held
      exact drives o own driven
  next o found =>
    obtain ⟨own, driven⟩ := (s.unclaim k).drivenOutput_some found
    exact (left.cutOff unclaimed own driven).ended (by rw [State.cutOff_slots]; exact place)

end Sys2Proof.Machine
end

section
/-! PROOFS. Every event keeps the press unit sound: what ends a pulse, a window or a gap, and what a PRESS begins (R118,
R120, R125, R126). -/

namespace Sys2Proof.Machine

/-! ### Slots that hold their outputs CLAIMED -/

/-- Slot k holds its outputs CLAIMED, holds no permit and does not wait. -/
structure HoldsClaimed (k : Nat) (s : State) : Prop where
  but : SoundBut k s
  claimed : ∀ o, (s.output o).owner = some k → (s.output o).state = .claimed
  unheld : some k ∉ s.press.permits
  unqueued : k ∉ s.press.queue

theorem HoldsClaimed.leaving {s : State} {k : Nat} (h : HoldsClaimed k s) : Leaving k s where
  but := h.but
  works o own := .inl (h.claimed o own)
  one o p own driven := absurd (h.claimed o own) (by simp [driven])
  permit held := absurd held h.unheld
  queue waits := absurd waits h.unqueued

theorem HoldsClaimed.of_same {s t : State} {k : Nat} (same : SamePress s t) (h : HoldsClaimed k s) :
    HoldsClaimed k t where
  but := h.but.of_same same
  claimed o := by
    rw [same.output]
    exact h.claimed o
  unheld := by
    rw [same.permits]
    exact h.unheld
  unqueued := by
    rw [same.queue]
    exact h.unqueued

/-- An output that the slot gives up leaves the others CLAIMED. -/
theorem HoldsClaimed.setOutput {s : State} {k o : Nat} {r : OutputRecord} (h : HoldsClaimed k s) (fits : OutputFits r)
    (before : (s.output o).owner = some k) (after : r.owner = none) : HoldsClaimed k (s.setOutput o r) where
  but := h.but.setOutput fits (owner_ne_other before) (by simp [after])
  claimed p own := by
    obtain e | ⟨-, e⟩ := s.output_setOutput_cases o r p
    · rw [e] at own ⊢
      exact h.claimed p own
    · rw [e, after] at own
      exact nomatch own
  unheld := h.unheld
  unqueued := h.unqueued

theorem SoundBut.holdsClaimed {s : State} {k : Nat} {op : Operation} (h : SoundBut k s) (ready : StepReady s k op) :
    HoldsClaimed k s :=
  ⟨h, fun o own => ready.claimed o ((ready.owned o).mp own), ready.unheld, ready.unqueued⟩

/-- An operation of a sound unit may end. -/
theorem PressSound.leaving {s : State} {k : Nat} {op : Operation} (h : PressSound s)
    (active : (s.slot k).operation = some op) : Leaving k s := by
  have fits := h.fits k
  have current : ∀ o, (s.output o).owner = some k → (s.output o).state ≠ .claimed →
      op.current = some o ∧ (s.output o).state = (s.slot k).drives := by
    intro o own ne
    have stands := fits.stands o op own active
    split at stands
    next e => exact ⟨e, stands⟩
    · exact absurd stands ne
  have driving : ∀ o, (s.output o).owner = some k → (s.output o).state = .driven → ∃ op, s.slot k = .driving op := by
    intro o own driven
    have e := (current o own (by simp [driven])).2
    rw [driven] at e
    cases slot : s.slot k with
    | driving op => exact ⟨op, rfl⟩
    | _ => simp [slot, Slot.drives] at e
  refine ⟨h.but k (h.operating active), fun o own => ?_, fun o p ho so hp sp => ?_, fun held => ?_,
    fun waits o own driven => ?_⟩
  · by_cases e : (s.output o).state = .claimed
    · exact .inl e
    · rw [(current o own e).2]
      unfold Slot.drives
      split <;> simp
  · exact Option.some.inj ((current o ho (by simp [so])).1.symm.trans (current p hp (by simp [sp])).1)
  · obtain ⟨op', slot⟩ := fits.held.mp held
    rw [slot] at active fits
    obtain rfl : op' = op := Option.some.inj active
    obtain ⟨nodup, lower, upper, -⟩ := fits.steps op' rfl
    obtain ⟨o, mem, e⟩ := Operation.current_of_valid lower upper
    have own := (fits.owned o).mpr ⟨op', rfl, rfl, mem⟩
    exact ⟨o, own, by simpa [e, Slot.drives] using fits.stands o op' own rfl⟩
  · obtain ⟨op', e⟩ := driving o own driven
    obtain ⟨op'', no⟩ := fits.waiting.mp waits
    exact nomatch e.symm.trans no

theorem PressSound.endOperation {s : State} {k : Nat} {rep : EndReport} (h : PressSound s) :
    PressSound (s.endOperation k rep) := by
  cases active : (s.slot k).operation with
  | none =>
    unfold State.endOperation
    rw [active]
    exact h
  | some op => exact (h.leaving active).endOperation active

/-! ### A release that is complete -/

/-- A slot with its outputs CLAIMED and a gap running is in step (R132). -/
theorem StepReady.fits {s : State} {k : Nat} {op : Operation} {x : Slot} (h : StepReady s k op)
    (operation : x.operation = some op) (working : x.isWatching = false) (drives : x.drives = .claimed)
    (idle : ∀ op, x ≠ .driving op ∧ x ≠ .waiting op) (gap : ∀ op e, x = .gap op e → op.step < op.steps.length) :
    SlotFits s k x := by
  have only : ∀ op', x.operation = some op' → op' = op := fun op' e => Option.some.inj (e.symm.trans operation)
  refine ⟨fun op' e => only op' e ▸ h.steps, gap, fun o => ?_, fun o op' own _ => ?_, ?_, ?_⟩
  · exact (h.owned o).trans ⟨fun mem => ⟨op, operation, working, mem⟩, fun ⟨op', e, _, mem⟩ => only op' e ▸ mem⟩
  · rw [drives, ite_self]
    exact h.claimed o ((h.owned o).mp own)
  · exact ⟨fun held => absurd held h.unheld, fun ⟨op', e⟩ => absurd e (idle op').1⟩
  · exact ⟨fun waits => absurd waits h.unqueued, fun ⟨op', e⟩ => absurd e (idle op').2⟩

/-- The next step of an operation is due where its step was (R132). -/
theorem StepReady.next {s : State} {k : Nat} {op : Operation} (h : StepReady s k op)
    (more : op.step < op.steps.length) :
    StepReady s k { op with step := op.step + 1 } :=
  ⟨⟨h.steps.1, Nat.succ_pos _, more, h.steps.2.2.2⟩, h.owned, h.claimed, h.unheld, h.unqueued⟩

/-- An operation enters WATCHING, or ends there, with its outputs given up (R134). -/
theorem SoundBut.enterWatching {s : State} {k : Nat} {op : Operation} (h : SoundBut k s) (ready : StepReady s k op)
    (active : (s.slot k).operation = some op) : PressSound (s.enterWatching k op) := by
  obtain ⟨left, unclaimed⟩ := (h.holdsClaimed ready).leaving.unclaim
  have place : k < (s.unclaim k).press.slots.length := State.slot_lt active
  have none : ∀ o, ((s.unclaim k).output o).owner ≠ some k := by
    intro o own
    refine unclaimed o own ?_
    rw [State.unclaim_output] at own ⊢
    split at own
    · simp [OutputRecord.toIdle] at own
    next c => exact absurd ⟨own, ready.claimed o ((ready.owned o).mp own)⟩ c
  have watches : PressSound ((s.unclaim k).setSlot k (.watching op ((s.unclaim k).time + op.watch))) := by
    refine (left.but.setSlot _).sound ?_
    rw [State.slot_setSlot_self place]
    refine ⟨?_, (fun _ _ no => nomatch no), fun o => ⟨fun own => absurd own (none o), ?_⟩,
      (fun o _ own => absurd own (none o)), ⟨fun held => absurd held ready.unheld, (fun ⟨_, no⟩ => nomatch no)⟩,
      ⟨fun waits => absurd waits ready.unqueued, (fun ⟨_, no⟩ => nomatch no)⟩⟩
    · rintro op' ⟨rfl⟩
      obtain ⟨nodup, lower, upper, range⟩ := ready.steps
      exact ⟨nodup, lower, upper, fun o ho => by simpa [State.unclaim] using range o ho⟩
    · rintro ⟨op', -, no, -⟩
      exact nomatch no
  unfold State.enterWatching
  dsimp only
  split
  · exact left.endOperation active
  · split
    · exact left.endOperation active
    · split
      · exact watches.endOperation
      · exact watches

/-- The slot goes on from a completed release (R132). -/
theorem SoundBut.releaseDone {s : State} {k : Nat} {op : Operation} (h : SoundBut k s) (ready : StepReady s k op)
    (active : (s.slot k).operation = some op) : PressSound (s.releaseDone k) := by
  have place := State.slot_lt active
  unfold State.releaseDone
  simp only [active]
  split
  · exact h.enterWatching ready active
  next more =>
    have more := Nat.lt_of_not_le more
    split
    · exact h.stepDue (ready.next more) place
    · refine (h.setSlot _).sound ?_
      rw [State.slot_setSlot_self place]
      refine SlotFits.congr (s := s) rfl .rfl .rfl (ready.fits rfl rfl rfl (fun _ => ⟨nofun, nofun⟩) ?_)
      rintro op' e ⟨rfl, rfl⟩
      exact more

/-- In a sound unit the owner of an output in work that is not CLAIMED is at that step (R120, R125). -/
theorem PressSound.current {s : State} {k o : Nat} (h : PressSound s) (own : (s.output o).owner = some k)
    (active : (s.output o).state ≠ .claimed) :
    ∃ op, (s.slot k).operation = some op ∧ (s.slot k).isWatching = false ∧ op.current = some o ∧
      (s.output o).state = (s.slot k).drives := by
  obtain ⟨op, operation, working, mem⟩ := ((h.fits k).owned o).mp own
  have stands := (h.fits k).stands o op own operation
  split at stands
  next e => exact ⟨op, operation, working, e, stands⟩
  · exact absurd stands active

/-- The other outputs of a slot at a step are CLAIMED. -/
theorem PressSound.claimed {s : State} {k o p : Nat} {op : Operation} (h : PressSound s)
    (operation : (s.slot k).operation = some op) (current : op.current = some o) (ne : o ≠ p)
    (own : (s.output p).owner = some k) : (s.output p).state = .claimed := by
  have stands := (h.fits k).stands p op own operation
  rwa [current, if_neg (by simpa using ne)] at stands

/-- Back in CLAIMED, the output of the current step leaves its slot ready (R132). -/
theorem PressSound.stepReady {s : State} {k o : Nat} {op : Operation} {r : OutputRecord} (h : PressSound s)
    (operation : (s.slot k).operation = some op) (working : (s.slot k).isWatching = false)
      (current : op.current = some o)
    (owner : r.owner = some k) (claimed : r.state = .claimed) (unheld : some k ∉ s.press.permits)
    (unqueued : k ∉ s.press.queue) : StepReady (s.setOutput o r) k op := by
  have fits := h.fits k
  obtain ⟨nodup, lower, upper, range⟩ := fits.steps op operation
  have owned : ∀ p, (s.output p).owner = some k ↔ p ∈ op.steps := fun p => (fits.owned p).trans
    ⟨fun ⟨op', e, _, mem⟩ => by rwa [Option.some.inj (e.symm.trans operation)] at mem,
      fun mem => ⟨op, operation, working, mem⟩⟩
  have mem : o ∈ op.steps := List.mem_of_getElem? current
  refine ⟨⟨nodup, lower, upper, fun p hp => by simpa using range p hp⟩, fun p => ?_, fun p hp => ?_, unheld, unqueued⟩
  · obtain e | ⟨rfl, e⟩ := s.output_setOutput_cases o r p
    · rw [e]
      exact owned p
    · rw [e, owner]
      exact ⟨fun _ => mem, fun _ => rfl⟩
  · rw [State.output_setOutput]
    split
    · exact claimed
    next c =>
      exact h.claimed operation current (fun e => c ⟨e, range o mem⟩) ((owned p).mpr hp)

/-- An output is CLAIMED again once its line is open and its release complete (R118). -/
theorem OutputFits.claim {r t : OutputRecord} (h : OutputFits r) (active : r.state ≠ .idle) (sound : r.state ≠ .faulted)
    (owner : t.owner ≠ none) (defined : t.defined = r.defined) (claimed : t.state = .claimed)
      (pulse : t.pulseEnd = none)
    (window : t.windowEnd = none) (fault : t.fault = r.fault) : OutputFits t where
  unowned no := absurd no owner
  defined no := absurd (h.defined (defined.symm.trans no)) active
  pulse := by simp [claimed, pulse]
  window := by simp [claimed, window]
  fault := by
    rw [claimed, fault, ← h.fault]
    simp [sound]

theorem PressSound.completeRelease {s : State} {o : Nat} (releasing : (s.output o).state = .releasing)
    (h : PressSound s) : PressSound (s.completeRelease o) := by
  have fits := h.unit.outputs o
  unfold State.completeRelease
  dsimp only
  split
  next k own =>
    obtain ⟨op, operation, working, current, drives⟩ := h.current own (by simp [releasing])
    obtain slot : s.slot k = .releasing op := by
      cases slot : s.slot k with
      | releasing op' => rw [Option.some.inj ((congrArg Slot.operation slot).symm.trans operation)]
      | _ => simp [slot, releasing, Slot.drives] at drives
    have unheld : some k ∉ s.press.permits := fun held => by
      obtain ⟨_, no⟩ := (h.fits k).held.mp held
      exact nomatch slot.symm.trans no
    have unqueued : k ∉ s.press.queue := fun waits => by
      obtain ⟨_, no⟩ := (h.fits k).waiting.mp waits
      exact nomatch slot.symm.trans no
    have but := (h.but k (h.operating operation)).setOutput
      (r := { s.output o with state := .claimed, pulseEnd := none, windowEnd := none })
      (fits.claim (by simp [releasing]) (by simp [releasing]) (by simp [own]) rfl rfl rfl rfl rfl) (owner_ne_other own)
      (owner_ne_other own)
    exact but.releaseDone (h.stepReady operation working current own rfl unheld unqueued) operation
  next own => exact h.setOutput (fits.toIdle (by simp [releasing])) own rfl

end Sys2Proof.Machine
end

section
/-! PROOFS. The press unit stays sound through the ends of pulses and windows, through PRESS and the definitions of
outputs, and through start-up; the bounds a sound press unit has (R118, R120, R125, R126). -/

namespace Sys2Proof.Machine

/-! ### The end of a pulse -/

/-- The line of output o opens and its permit goes (R128). -/
def State.openLine (s : State) (o k : Nat) : State :=
  (s.setOutput o { s.output o with state := .claimed, pulseEnd := none }).releasePermit k

theorem State.endPulse_of_owner {s : State} {o k : Nat} {d : Stamp} (own : (s.output o).owner = some k) :
    s.endPulse o d =
      match (s.output o).readback with
      | none => (s.openLine o k).completeRelease o
      | some c =>
        match (s.openLine o k).accepted c with
        | none =>
          ((s.openLine o k).setOutput o ((s.openLine o k).output o).toIdle).endOperation k
            (faultReport o .readbackLost d)
        | some l =>
          if l = (s.output o).sense then
            match ((s.openLine o k).slot k).operation with
            | some op =>
              ((s.openLine o k).setOutput o { (s.openLine o k).output o with
                state := .releasing, windowEnd := some (d + Config.releaseWindow) }).setSlot k (.releasing op)
            | none => s.openLine o k
          else ((s.openLine o k).faultOutput o .noReadback d).endOperation k (faultReport o .noReadback d) := by
  unfold State.endPulse State.openLine
  simp only [own] <;> rfl

/-- What the open line leaves: the output CLAIMED, its slot ready to go on, and the unit sound but for that slot. -/
structure LineOpened (o k : Nat) (op : Operation) (t : State) : Prop where
  but : SoundBut k t
  ready : StepReady t k op
  slot : t.slot k = .driving op
  current : op.current = some o
  own : (t.output o).owner = some k
  claimed : (t.output o).state = .claimed
  place : o < t.press.outputs.length

theorem PressSound.openLine {s : State} {o k : Nat} (h : PressSound s) (driven : (s.output o).state = .driven)
    (own : (s.output o).owner = some k) : ∃ op, LineOpened o k op (s.openLine o k) := by
  have fits := h.unit.outputs o
  obtain ⟨op, operation, working, current, drives⟩ := h.current own (by simp [driven])
  obtain slot : s.slot k = .driving op := by
    cases slot : s.slot k with
    | driving op' => rw [Option.some.inj ((congrArg Slot.operation slot).symm.trans operation)]
    | _ => simp [slot, driven, Slot.drives] at drives
  have unqueued : k ∉ s.press.queue := fun waits => by
    obtain ⟨_, no⟩ := (h.fits k).waiting.mp waits
    exact nomatch slot.symm.trans no
  have place : o < s.press.outputs.length := State.output_lt (by simp [driven])
  have window : (s.output o).windowEnd = none := by
    by_contra running
    exact absurd (fits.window.mpr running) (by simp [driven])
  have but := (h.but k (h.operating operation)).setOutput (r := { s.output o with state := .claimed, pulseEnd := none })
    (fits.claim (by simp [driven]) (by simp [driven]) (by simp [own]) rfl rfl rfl window rfl) (owner_ne_other own)
    (owner_ne_other own)
  have permit := but.releasePermit unqueued
  have here : (s.openLine o k).output o = { s.output o with state := .claimed, pulseEnd := none } :=
    (permit.output (by rw [State.output_setOutput_self place]; exact owner_ne_other own)).trans
      (State.output_setOutput_self place)
  obtain ⟨nodup, lower, upper, range⟩ := (h.fits k).steps op operation
  have mem : o ∈ op.steps := List.mem_of_getElem? current
  have owned : ∀ p, ((s.openLine o k).output p).owner = some k ↔ (s.output p).owner = some k := by
    intro p
    have written : ((s.setOutput o { s.output o with state := .claimed, pulseEnd := none }).output p).owner
        = (s.output p).owner := by
      obtain e | ⟨rfl, e⟩ := s.output_setOutput_cases o { s.output o with state := .claimed, pulseEnd := none } p
      · rw [e]
      · rw [e]
    obtain e | ⟨j, ne, before, after⟩ := permit.outputs p
    · rw [← written, State.openLine, e]
    · rw [← written, State.openLine, before, after]
  have claimed : ∀ p, ((s.openLine o k).output p).owner = some k → ((s.openLine o k).output p).state = .claimed := by
    intro p hp
    by_cases e : o = p
    · rw [← e, here]
    · have same := (permit.output_of_owner hp).trans (State.output_setOutput_ne e)
      rw [show (s.openLine o k).output p = s.output p from same] at hp ⊢
      exact h.claimed operation current e hp
  refine ⟨op, permit.but, ⟨⟨nodup, lower, upper, fun p hp => ?_⟩, fun p => ?_, fun p hp => ?_, permit.unheld,
    permit.unqueued⟩, permit.slot.trans slot, current, by rw [here]; exact own, by rw [here], ?_⟩
  · rw [State.openLine, permit.length]
    simpa using range p hp
  · rw [owned, (h.fits k).owned]
    exact ⟨fun ⟨op', e, _, hp⟩ => by rwa [Option.some.inj (e.symm.trans operation)] at hp,
      fun hp => ⟨op, operation, working, hp⟩⟩
  · exact claimed p ((owned p).mpr (((h.fits k).owned p).mpr ⟨op, operation, working, hp⟩))
  · rw [State.openLine, permit.length]
    simpa using place

namespace LineOpened

variable {t : State} {o k : Nat} {op : Operation}

theorem active (h : LineOpened o k op t) : (t.slot k).operation = some op := by
  rw [h.slot]
  rfl

theorem holds (h : LineOpened o k op t) : HoldsClaimed k t := h.but.holdsClaimed h.ready

theorem completeRelease (h : LineOpened o k op t) : PressSound (t.completeRelease o) := by
  have fits := h.but.unit.outputs o
  have but := h.but.setOutput (r := { t.output o with state := .claimed, pulseEnd := none, windowEnd := none })
    (fits.claim (by simp [h.claimed]) (by simp [h.claimed]) (by simp [h.own]) rfl rfl rfl rfl rfl)
    (owner_ne_other h.own) (owner_ne_other h.own)
  have written := t.output_setOutput_cases o { t.output o with state := .claimed, pulseEnd := none, windowEnd := none }
  unfold State.completeRelease
  dsimp only
  split
  next j own =>
    obtain rfl : j = k := Option.some.inj (own.symm.trans h.own)
    refine but.releaseDone (op := op) ⟨?_, fun p => ?_, fun p hp => ?_, h.ready.unheld, h.ready.unqueued⟩ h.active
    · simpa using h.ready.steps
    · obtain e | ⟨rfl, e⟩ := written p
      · rw [e]
        exact h.ready.owned p
      · rw [e]
        exact h.ready.owned o
    · obtain e | ⟨-, e⟩ := written p
      · rw [e]
        exact h.ready.claimed p hp
      · rw [e]
  next none => exact absurd h.own (by simp [none])

/-- The output releases, with its slot (R129). -/
theorem releasing (h : LineOpened o k op t) (e : Stamp) :
    PressSound ((t.setOutput o { t.output o with state := .releasing, windowEnd := some e }).setSlot k
      (.releasing op)) := by
  have fits := h.but.unit.outputs o
  have records : OutputFits { t.output o with state := .releasing, windowEnd := some e } :=
    { unowned := fun no => absurd no (by simp [h.own])
      defined := fun no => absurd (fits.defined no) (by simp [h.claimed])
      pulse := by
        have : (t.output o).pulseEnd = none := by
          by_contra running
          exact absurd (fits.pulse.mpr running) (by simp [h.claimed])
        simp [this]
      window := by simp
      fault := by
        have : (t.output o).fault = none := by
          by_contra faulted
          exact absurd (fits.fault.mpr faulted) (by simp [h.claimed])
        simp [this] }
  have but := h.but.setOutput records (owner_ne_other h.own) (owner_ne_other h.own)
  refine (but.setSlot _).sound ?_
  rw [State.slot_setSlot_self (s := t.setOutput o { t.output o with state := .releasing, windowEnd := some e })
    (State.slot_lt h.active)]
  refine ⟨?_, (fun _ _ no => nomatch no), fun p => ?_, fun p op' own active => ?_,
    ⟨fun held => absurd held h.ready.unheld, (fun ⟨_, no⟩ => nomatch no)⟩,
    ⟨fun waits => absurd waits h.ready.unqueued, (fun ⟨_, no⟩ => nomatch no)⟩⟩
  · rintro op' ⟨rfl⟩
    simpa using h.ready.steps
  · have owner : ((t.setOutput o { t.output o with state := .releasing, windowEnd := some e }).output p).owner
        = (t.output p).owner := by
      obtain e | ⟨rfl, e⟩ := t.output_setOutput_cases o { t.output o with state := .releasing, windowEnd := some e } p
      · rw [e]
      · rw [e]
    rw [State.output_setSlot, owner, h.ready.owned]
    exact ⟨fun mem => ⟨op, rfl, rfl, mem⟩, fun ⟨op', e, _, mem⟩ => by obtain rfl := Option.some.inj e; exact mem⟩
  · obtain rfl := Option.some.inj active
    rw [State.output_setSlot, State.output_setOutput] at own ⊢
    by_cases e : o = p
    · simp [← e, h.place, h.current, Slot.drives]
    · rw [if_neg (fun c => e c.1)] at own ⊢
      rw [h.current, if_neg (by simpa using e)]
      exact h.ready.claimed p ((h.ready.owned p).mp own)

/-- The output is given up as it faults or loses its readback, and the operation ends (R129, R142). -/
theorem givenUp (h : LineOpened o k op t) {r : OutputRecord} (fits : OutputFits r) (owner : r.owner = none) {u : State}
    (same : SamePress (t.setOutput o r) u) (rep : EndReport) : PressSound (u.endOperation k rep) :=
  ((h.holds.setOutput fits h.own owner).of_same same).leaving.endOperation
    (op := op) ((same.operation k).trans h.active)

end LineOpened

/-- An output that faults (R142). -/
theorem OutputFits.faulted {r : OutputRecord} (h : OutputFits r) (active : r.state ≠ .idle) (cause : DriverCause) :
    OutputFits { r.toIdle with state := .faulted, fault := some cause } where
  unowned _ := by simp
  defined no := absurd (h.defined no) active
  pulse := by simp [OutputRecord.toIdle]
  window := by simp [OutputRecord.toIdle]
  fault := by simp

/-- The end of a pulse keeps the unit sound (R128, R129). -/
theorem PressSound.endPulse {s : State} {o : Nat} {d : Stamp} (driven : (s.output o).state = .driven)
    (h : PressSound s) : PressSound (s.endPulse o d) := by
  obtain ⟨k, own⟩ : ∃ k, (s.output o).owner = some k := by
    cases e : (s.output o).owner with
    | none => exact absurd driven ((h.unit.outputs o).unowned e).2
    | some k => exact ⟨k, rfl⟩
  obtain ⟨op, opened⟩ := h.openLine driven own
  have fits := opened.but.unit.outputs o
  rw [State.endPulse_of_owner own]
  split
  · exact opened.completeRelease
  · split
    · exact opened.givenUp (fits.toIdle (by simp [opened.claimed])) rfl (.refl _) _
    · split
      · rw [opened.active]
        exact opened.releasing _
      · exact opened.givenUp (fits.faulted (by simp [opened.claimed]) _) rfl (State.handOutput_samePress _ _) _

/-! ### The end of a release window -/

theorem PressSound.faultReleasing {s : State} {o : Nat} {cause : DriverCause} {d : Stamp} {rep : EndReport}
    (releasing : (s.output o).state = .releasing) (h : PressSound s) :
    PressSound ((s.faultOutput o cause d).endOwner (s.output o).owner rep) := by
  have fits := (h.unit.outputs o).faulted (by simp [releasing]) cause
  have same := State.handOutput_samePress
    (s.setOutput o { (s.output o).toIdle with state := .faulted, fault := some cause }) ⟨o, .faulted, .fault cause, d⟩
  unfold State.endOwner
  split
  next k own =>
    obtain ⟨op, operation, working, current, drives⟩ := h.current own (by simp [releasing])
    obtain slot : s.slot k = .releasing op := by
      cases slot : s.slot k with
      | releasing op' => rw [Option.some.inj ((congrArg Slot.operation slot).symm.trans operation)]
      | _ => simp [slot, releasing, Slot.drives] at drives
    have left := h.leaving operation
    have holds :
      HoldsClaimed k (s.setOutput o { (s.output o).toIdle with state := .faulted, fault := some cause }) := by
      refine ⟨left.but.setOutput fits (owner_ne_other own) (by simp [OutputRecord.toIdle]), fun p hp => ?_,
        fun held => ?_, fun waits => ?_⟩
      · rw [State.output_setOutput] at hp ⊢
        split at hp
        · simp [OutputRecord.toIdle] at hp
        next c =>
          rw [if_neg c]
          exact h.claimed operation current
            (fun e => c ⟨e, State.output_lt (by simp [releasing])⟩) hp
      · obtain ⟨_, no⟩ := (h.fits k).held.mp held
        exact nomatch slot.symm.trans no
      · obtain ⟨_, no⟩ := (h.fits k).waiting.mp waits
        exact nomatch slot.symm.trans no
    exact (holds.of_same same).leaving.endOperation ((same.operation k).trans operation)
  next none => exact (h.setOutput fits none rfl).of_same same

theorem PressSound.endWindow {s : State} {o : Nat} {d : Stamp} (releasing : (s.output o).state = .releasing)
    (h : PressSound s) : PressSound (s.endWindow o d) := by
  unfold State.endWindow
  dsimp only
  split
  · exact h.completeRelease releasing
  · split
    · exact h.faultReleasing releasing
    · split
      · exact h.faultReleasing releasing
      · exact h.completeRelease releasing

/-! ### A gap that ends, and a PRESS that begins -/

theorem PressSound.endGap {s : State} {k : Nat} {op : Operation} {e : Stamp} (slot : s.slot k = .gap op e)
    (h : PressSound s) : PressSound (s.stepDue k { op with step := op.step + 1 }) := by
  have fits := h.fits k
  rw [slot] at fits
  have owned : ∀ p, (s.output p).owner = some k ↔ p ∈ op.steps := fun p => (fits.owned p).trans
    ⟨fun ⟨op', e, _, mem⟩ => by obtain rfl := Option.some.inj e; exact mem, fun mem => ⟨op, rfl, rfl, mem⟩⟩
  have operation : (s.slot k).operation = some op := by
    rw [slot]
    rfl
  have ready : StepReady s k op := by
    refine ⟨fits.steps op rfl, owned, fun p hp => ?_, fun held => ?_, fun waits => ?_⟩
    · simpa [Slot.drives] using fits.stands p op ((owned p).mpr hp) rfl
    · obtain ⟨_, no⟩ := fits.held.mp held
      exact nomatch no
    · obtain ⟨_, no⟩ := fits.waiting.mp waits
      exact nomatch no
  exact (h.but k (h.operating operation)).stepDue (ready.next (fits.gaps op e rfl)) (State.slot_lt operation)

theorem State.output_claim (s : State) (k : Nat) (steps : List Nat) (o : Nat) : (s.claim k steps).output o =
    if o ∈ steps ∧ o < s.press.outputs.length then { s.output o with state := .claimed, owner := some k }
    else s.output o := by
  simp only [State.output, State.claim, State.setOutputs_press, List.getD_eq_getElem?_getD, List.getElem?_mapIdx]
  by_cases place : o < s.press.outputs.length
  · by_cases mem : o ∈ steps <;> simp [place, mem]
  · simp [place]

/-- The outputs of a PRESS that passes its checks are defined, not FAULTED and not taken (R123). -/
theorem State.stepFault_none {s : State} {steps : List Nat} (h : s.stepFault steps = none) {o : Nat} (mem : o ∈ steps) :
    (s.output o).defined = true ∧ (s.output o).state = .idle := by
  unfold State.stepFault at h
  split at h
  · exact nomatch h
  next defined =>
    split at h
    · exact nomatch h
    next sound =>
      split at h
      · exact nomatch h
      next free =>
        have defined := List.find?_eq_none.mp defined o mem
        have sound := List.find?_eq_none.mp sound o mem
        have free := List.find?_eq_none.mp free o mem
        refine ⟨by simpa using defined, ?_⟩
        unfold State.outputTaken at free
        cases e : (s.output o).state <;> simp_all

theorem State.freeSlot_some {s : State} {k : Nat} (h : s.freeSlot = some k) :
    k < s.press.slots.length ∧ ∃ r, s.slot k = .free r := by
  obtain ⟨place, free, -⟩ := List.findIdx?_eq_some_iff_getElem.mp h
  refine ⟨place, ?_⟩
  rw [State.slot, List.getD_eq_getElem _ _ place]
  cases e : s.press.slots[k] with
  | free r => exact ⟨r, rfl⟩
  | _ => simp [e, Slot.isFree] at free

/-- An output of a sound unit that is not in work has no owner (R120). -/
theorem PressSound.owner_none {s : State} {o : Nat} (h : PressSound s)
    (rests : (s.output o).state = .idle ∨ (s.output o).state = .faulted) : (s.output o).owner = none := by
  by_contra owned
  obtain ⟨k, own⟩ := Option.ne_none_iff_exists'.mp owned
  obtain ⟨op, operation, -⟩ := ((h.fits k).owned o).mp own
  obtain e | e | e := (h.leaving operation).works o own <;> simp [e] at rests

/-- A PRESS that is accepted claims its outputs, and its first step is due (R124). -/
theorem PressSound.pressed {s : State} {k : Nat} {op : Operation} (h : PressSound s) (operating : s.power = .operating)
    (fit : stepsFit op.steps = true) (first : op.step = 1) (checked : s.stepFault op.steps = none)
    (slot : s.freeSlot = some k) : PressSound ((s.claim k op.steps).stepDue k op) := by
  obtain ⟨place, r, free⟩ := State.freeSlot_some slot
  obtain ⟨unowned, unheld, unqueued⟩ := (slotFits_of_none (by rw [free]; rfl)).mp (h.fits k)
  have idle : ∀ o ∈ op.steps, (s.output o).defined = true ∧ (s.output o).state = .idle := fun o mem =>
    State.stepFault_none checked mem
  have range : ∀ o ∈ op.steps, o < s.press.outputs.length := by
    intro o mem
    by_contra beyond
    have undefined := (idle o mem).1
    rw [State.output, List.getD_eq_getElem?_getD, List.getElem?_eq_none (Nat.le_of_not_lt beyond)] at undefined
    exact nomatch undefined
  have written : ∀ o, (s.claim k op.steps).output o = s.output o ∧ o ∉ op.steps ∨
      o ∈ op.steps ∧ (s.claim k op.steps).output o = { s.output o with state := .claimed, owner := some k } := by
    intro o
    rw [State.output_claim]
    by_cases mem : o ∈ op.steps
    · exact .inr ⟨mem, by rw [if_pos ⟨mem, range o mem⟩]⟩
    · exact .inl ⟨by rw [if_neg (fun c => mem c.1)], mem⟩
  have but : SoundBut k (s.claim k op.steps) := by
    refine (h.but k operating).setOutputs (by simp) fun o => ?_
    obtain ⟨e, -⟩ | ⟨mem, e⟩ := written o
    · exact .inl e
    · have fits := h.unit.outputs o
      have none := h.owner_none (.inl (idle o mem).2)
      rw [State.claim] at e
      rw [e, none]
      refine .inr ⟨⟨nofun, fun no => absurd ((idle o mem).1.symm.trans no) (by simp), ?_, ?_, ?_⟩, fun _ _ => nofun,
        fun j ne => by simpa using Ne.symm ne⟩
      · have := fits.pulse
        simp only [(idle o mem).2] at this
        simpa using this
      · have := fits.window
        simp only [(idle o mem).2] at this
        simpa using this
      · have := fits.fault
        simp only [(idle o mem).2] at this
        simpa using this
  have nodup : op.steps.Nodup ∧ 1 ≤ op.steps.length := by
    unfold stepsFit at fit
    simp only [Bool.and_eq_true, decide_eq_true_eq] at fit
    exact ⟨fit.2, Nat.pos_of_ne_zero fit.1.1.1⟩
  refine but.stepDue ⟨⟨nodup.1, first.ge, first ▸ nodup.2, fun o mem => by simpa [State.claim] using range o mem⟩,
    fun o => ?_, fun o mem => ?_, unheld, unqueued⟩ place
  · obtain ⟨e, out⟩ | ⟨mem, e⟩ := written o
    · rw [e]
      exact ⟨fun own => absurd own (unowned o), fun mem => absurd mem out⟩
    · rw [e]
      exact ⟨fun _ => mem, fun _ => rfl⟩
  · obtain ⟨-, out⟩ | ⟨-, e⟩ := written o
    · exact absurd mem out
    · rw [e]

/-! ### Outputs defined and cleared, and start-up -/

theorem OutputFits.cleared {r : OutputRecord} : OutputFits { r.toIdle with fault := none } where
  unowned _ := by simp [OutputRecord.toIdle]
  defined _ := rfl
  pulse := by simp [OutputRecord.toIdle]
  window := by simp [OutputRecord.toIdle]
  fault := by simp [OutputRecord.toIdle]

theorem OutputFits.redefined {r : OutputRecord} {pulse : Nat} {fields : Bool × Option Nat × Level} (h : OutputFits r)
    (idle : r.state = .idle) : OutputFits (r.redefined pulse fields) := by
  unfold OutputRecord.redefined
  split
  · exact ⟨fun _ => ⟨nofun, nofun⟩, fun _ => rfl, by simp, by simp, by simp⟩
  · exact ⟨h.unowned, fun _ => idle, h.pulse, h.window, h.fault⟩

/-- A unit in which no slot has an operation and no output is in work is sound. -/
theorem pressSound_of_rest {s : State} (slots : s.press.slots.length = Config.pressSlots)
    (permits : s.press.permits.length = Config.permits) (operations : ∀ k, (s.slot k).operation = none)
    (queue : s.press.queue = []) (unheld : ∀ k, some k ∉ s.press.permits)
    (outputs : ∀ o, OutputFits (s.output o) ∧ (s.output o).owner = none) : PressSound s := by
  refine (pressSound_iff s).mpr ⟨⟨slots, permits, fun o => (outputs o).1, fun p q k hp _ => ?_, by simp [queue],
    fun waits => absurd queue waits⟩, fun _ => ⟨operations, queue, unheld⟩,
    fun k => (slotFits_of_none (operations k)).mpr
      ⟨fun o => by simp [(outputs o).2], unheld k, by simp [queue]⟩⟩
  exact absurd (List.mem_iff_getElem?.mpr ⟨p, hp⟩) (unheld k)

theorem pressSound_blank (s : State) (p : Power) : PressSound (s.blocksBlank.setPower p) := by
  refine pressSound_of_rest rfl rfl (fun k => ?_) rfl (fun k => ?_) fun o => ?_
  · rw [State.slot_blank]
    rfl
  · exact fun mem => nomatch List.eq_of_mem_replicate mem
  · rw [State.output_blank]
    exact ⟨⟨fun _ => ⟨nofun, nofun⟩, fun _ => rfl, by decide, by decide, by decide⟩, rfl⟩

theorem outputFits_load (x : Option StoredOutput) : OutputFits (loadOutput x) := by
  cases x with
  | none => exact ⟨fun _ => ⟨nofun, nofun⟩, fun _ => rfl, by decide, by decide, by decide⟩
  | some r => exact ⟨fun _ => ⟨nofun, nofun⟩, fun _ => rfl, by simp [loadOutput], by simp [loadOutput],
      by simp [loadOutput]⟩

theorem PressSound.completeLoad {s : State} (h : PressSound s) (off : s.power ≠ .operating) :
    PressSound s.completeLoad := by
  obtain ⟨operations, queue, unheld⟩ := h.resting off
  refine pressSound_of_rest h.slots h.permits operations queue unheld fun o => ?_
  rw [State.output_completeLoad]
  exact ⟨outputFits_load _, (loadOutput_resting _).1⟩

theorem pressSound_setInhibit {s : State} (b : Bool) (h : PressSound s) : PressSound (s.setInhibit b) := by
  obtain ⟨unit, rests, slots⟩ := (pressSound_iff s).mp h
  exact (pressSound_iff _).mpr ⟨⟨unit.slots, unit.permits, unit.outputs, unit.once, unit.queued, unit.busy⟩, rests,
    fun k => SlotFits.congr (s := s) rfl .rfl .rfl (slots k)⟩

/-- The press unit is kept sound by all that changes it. -/
theorem pressSound_kept : KeptByPressUnit PressSound where
  same _ _ same h := h.of_same same
  ended _ _ _ h := h.endOperation
  released _ _ releasing h := h.completeRelease releasing
  pulse _ _ _ driven h := h.endPulse driven
  window _ _ _ releasing h := h.endWindow releasing
  gap _ _ _ _ slot h := h.endGap slot
  pressed _ _ _ operating _ fit first checked slot h := h.pressed operating fit first checked slot
  cleared s o _ faulted h := h.setOutput .cleared (h.owner_none (.inr faulted)) rfl
  defined s o pulse fields resting h := by
    have idle : (s.output o).state = .idle := by
      cases d : (s.output o).defined with
      | true => exact resting d
      | false => exact (h.unit.outputs o).defined d
    refine h.setOutput ((h.unit.outputs o).redefined idle) (h.owner_none (.inl idle)) ?_
    unfold OutputRecord.redefined
    split
    · rfl
    · exact h.owner_none (.inl idle)
  inhibited _ h := pressSound_setInhibit true h
  enabled _ _ h := pressSound_setInhibit false h
  blank s p _ := pressSound_blank s p
  loaded s b loading h := h.completeLoad (by simp [loading])

/-! ### The bounds of a sound unit (R126) -/

/-- The permits that are held are held by slots that drive, each by one slot: there are two at most. -/
theorem PressSound.holders_le {s : State} (h : PressSound s) {holders : List (Option Nat)} (nodup : holders.Nodup)
    (held : ∀ x ∈ holders, x ∈ s.press.permits) : holders.length ≤ 2 :=
  ((List.subperm_of_subset nodup held).length_le).trans h.permits.le

/-- Every DRIVEN output is the current one of a slot that drives, and so holds a permit (R120, R126). -/
theorem PressSound.driver {s : State} (h : PressSound s) {o : Nat} (driven : (s.output o).state = .driven) :
    ∃ k op, (s.output o).owner = some k ∧ s.slot k = .driving op ∧ op.current = some o := by
  cases own : (s.output o).owner with
  | none => exact absurd driven ((h.unit.outputs o).unowned own).2
  | some k =>
    obtain ⟨op, operation, -, current, drives⟩ := h.current own (by simp [driven])
    cases slot : s.slot k with
    | driving op' =>
      rw [slot] at operation
      exact ⟨k, op', rfl, slot, by rwa [Option.some.inj operation]⟩
    | _ => simp [slot, driven, Slot.drives] at drives

theorem PressSound.driven_le {s : State} (h : PressSound s) :
    s.press.outputs.countP (fun r => r.state = .driven) ≤ 2 := by
  have listed : s.press.outputs = (List.range s.press.outputs.length).map s.output := by
    refine List.ext_getElem (by simp) fun o place _ => ?_
    simp [State.output, List.getElem?_eq_getElem place]
  have owners := h.holders_le (holders := ((List.range s.press.outputs.length).filter
    (fun o => (s.output o).state = .driven)).map (fun o => (s.output o).owner)) ?nodup ?held
  case nodup =>
    refine (List.nodup_range.filter _).map_on fun o ho p hp same => ?_
    obtain ⟨k, op, ownO, slotO, currentO⟩ := h.driver (by simpa using (List.mem_filter.mp ho).2)
    obtain ⟨j, op', ownP, slotP, currentP⟩ := h.driver (by simpa using (List.mem_filter.mp hp).2)
    obtain rfl : k = j := Option.some.inj (ownO.symm.trans (same.trans ownP))
    obtain rfl : op = op' := Slot.driving.inj (slotO.symm.trans slotP)
    exact Option.some.inj (currentO.symm.trans currentP)
  case held =>
    intro x hx
    obtain ⟨o, ho, rfl⟩ := List.mem_map.mp hx
    obtain ⟨k, op, own, slot, -⟩ := h.driver (by simpa using (List.mem_filter.mp ho).2)
    rw [own]
    exact (h.fits k).held.mpr ⟨op, slot⟩
  calc s.press.outputs.countP (fun r => r.state = .driven)
    _ = ((List.range s.press.outputs.length).map s.output).countP (fun r => r.state = .driven) := by rw [← listed]
    _ = ((List.range s.press.outputs.length).filter (fun o => (s.output o).state = .driven)).length := by
        rw [List.countP_map, List.countP_eq_length_filter]
        rfl
    _ ≤ 2 := by simpa using owners

/-- While slots wait two others drive; there are four slots (R125, R126). -/
theorem PressSound.queue_le {s : State} (h : PressSound s) : s.press.queue.length ≤ 2 := by
  by_cases empty : s.press.queue = []
  · simp [empty]
  · have busy := h.busy empty
    obtain ⟨x, y, permits⟩ := List.length_eq_two.mp (h.permits.trans (show Config.permits = 2 from rfl))
    rw [permits] at busy
    obtain ⟨a, rfl⟩ := Option.ne_none_iff_exists'.mp (fun e : x = none => busy (by simp [e]))
    obtain ⟨b, rfl⟩ := Option.ne_none_iff_exists'.mp (fun e : y = none => busy (by simp [e]))
    have drives : ∀ k, some k ∈ s.press.permits → ∃ op, s.slot k = .driving op := fun k => (h.fits k).held.mp
    have unqueued : ∀ k, some k ∈ s.press.permits → k ∉ s.press.queue := by
      intro k held waits
      obtain ⟨op, slot⟩ := drives k held
      obtain ⟨op', no⟩ := (h.fits k).waiting.mp waits
      exact nomatch slot.symm.trans no
    have distinct : a ≠ b := by
      rintro rfl
      exact absurd (h.once 0 1 a (by simp [permits]) (by simp [permits])) (by simp)
    have slots : ∀ k, (s.slot k).operation.isSome → k ∈ List.range 4 := by
      intro k active
      obtain ⟨op, active⟩ := Option.isSome_iff_exists.mp active
      exact List.mem_range.mpr ((State.slot_lt active).trans_eq h.slots)
    have held : some a ∈ s.press.permits ∧ some b ∈ s.press.permits := by simp [permits]
    have sub : (a :: b :: s.press.queue).Subperm (List.range 4) := by
      refine List.subperm_of_subset ?_ fun k mem => slots k ?_
      · simp [distinct, unqueued a held.1, unqueued b held.2, h.queued]
      · obtain rfl | mem := List.mem_cons.mp mem
        · obtain ⟨op, slot⟩ := drives k held.1
          simp [slot, Slot.operation]
        · obtain rfl | mem := List.mem_cons.mp mem
          · obtain ⟨op, slot⟩ := drives k held.2
            simp [slot, Slot.operation]
          · obtain ⟨op, slot⟩ := (h.fits k).waiting.mp mem
            simp [slot, Slot.operation]
    have := sub.length_le
    simp only [List.length_cons, List.length_range] at this
    omega

/-- A slot that waits has its output CLAIMED (R125). -/
theorem PressSound.othersWait {s : State} (h : PressSound s) {o : Nat} (unclaimed : (s.output o).state ≠ .claimed) :
    OthersWait s o := by
  intro k waits op operation current
  have fits := h.fits k
  obtain ⟨op', slot⟩ := fits.waiting.mp waits
  rw [slot] at fits operation
  obtain rfl := Option.some.inj operation
  have own := (fits.owned o).mpr ⟨op', rfl, rfl, List.mem_of_getElem? current⟩
  exact unclaimed (by simpa [Slot.drives] using fits.stands o op' own rfl)

/-- Settles O30: every event keeps the press unit sound, as all that changes it does; the permits bound what is driven
and the slots bound what waits. -/
theorem pressUnitStaysSound : Obligations.PressUnitStaysSound := by
  refine ⟨fun s t h run => ?_, fun s h => ⟨h.driven_le, h.queue_le.trans (by decide), h.queue_le,
    fun k => (h.fits k).waiting.mp, fun o => h.othersWait⟩⟩
  refine pressSound_kept.eventsLead.step (fun u p h => h.of_same (s := u) (.of_press rfl rfl rfl))
    (fun u straps _ => ?_) h run
  exact pressSound_blank ((u.setTime 0).setStraps straps) (.loading 0)

end Sys2Proof.Machine
end

section
/-! PROOFS. The answer to a served request, said once for every request; and the statements on steps, reset, the routine
hold and the link mode, the scan's period and tolerance, and the latch of a module (R1, R7, R15, R114, R158, R177). -/

namespace Sys2Proof.Machine

/-! ### Answers -/

section Answers

variable {s t : State} {i : Instr} {kind tag reply : Octet} {body fields : List Octet} {r : ResultCode}

/-- A request that its owner serves OK, whatever follows it at once (R79, R151). -/
theorem exec_okWith_finish (h : s.serves) (frame : encodeRequest i = some ⟨kind, tag, body⟩)
    (served : serveRequest i s = (t, okWith fields)) (known : kind ≠ kindDiscarded := by decide)
    (replies : replyKind kind = reply := by decide) :
    exec i s = .next (State.finish s (t.afterReply reply tag .ok fields)) := by
  rw [exec_of_request frame, State.takeFrame_serves h known, State.serveFrame_finish, served, ← replies]
  rfl

/-- A request that its owner serves OK and that starts no timer and no watch. -/
theorem exec_okWith (h : s.serves) (frame : encodeRequest i = some ⟨kind, tag, body⟩)
    (served : serveRequest i s = (t, okWith fields)) (timers : ∀ n, (t.object n).timer = (s.object n).timer)
    (slots : ∀ k, (t.slot k).isWatching = true → (s.slot k).isWatching = true)
    (known : kind ≠ kindDiscarded := by decide) (replies : replyKind kind = reply := by decide) :
    exec i s = .next (t.afterReply reply tag .ok fields) := by
  rw [exec_of_request frame, State.takeFrame_serves h known, State.serveFrame_quiet (by simpa [served] using timers)
    (by simpa [served] using slots), served, ← replies]
  rfl

/-- A request that its owner refuses, or answers otherwise, and that changes nothing but the link. -/
theorem exec_unchanged (h : s.serves) (frame : encodeRequest i = some ⟨kind, tag, body⟩)
    (served : serveRequest i s = (s, ⟨r, fields⟩)) (known : kind ≠ kindDiscarded := by decide)
    (replies : replyKind kind = reply := by decide) : exec i s = .next (s.afterReply reply tag r fields) := by
  rw [exec_of_request frame, State.takeFrame_serves h known,
    State.serveFrame_quiet (by simp [served]) (by simp [served]),
    served, ← replies]
  rfl

end Answers

/-! ### One step, and the part after reset -/

/-- Settles O1: the queue is read at its front. -/
theorem stepRunsFront : Obligations.StepRunsFront := fun _ _ _ => rfl

theorem State.object_blank_table {s : State} (h : s.table = .blank) (n : Nat) : s.object n = .undefined := by
  simp only [State.object, h, ObjectTable.blank, List.getD_eq_getElem?_getD, List.getElem?_replicate]
  split <;> rfl

theorem State.slot_blank_press {s : State} (h : s.press = .blank) (k : Nat) : s.slot k = .free none := by
  simp only [State.slot, h, PressUnit.blank, List.getD_eq_getElem?_getD, List.getElem?_replicate]
  split <;> rfl

theorem State.output_blank_press {s : State} (h : s.press = .blank) (o : Nat) : s.output o = .undefined := by
  simp only [State.output, h, PressUnit.blank, List.getD_eq_getElem?_getD, List.getElem?_replicate]
  split <;> rfl

theorem State.contact_blank_filter {s : State} (h : s.filter = .blank) (c : Nat) : s.contact c = .fresh 0 := by
  simp only [State.contact, h, Filter.blank, List.getD_eq_getElem?_getD, List.getElem?_replicate]
  split <;> rfl

theorem shaped_reset : Shaped State.reset where
  contacts := List.length_replicate
  profiles := List.length_replicate
  flash := List.length_replicate
  objects := List.length_replicate
  outputs := List.length_replicate
  slots := List.length_replicate
  permits := List.length_replicate
  modulePending := List.length_replicate
  outputPending := List.length_replicate

/-- Settles O2: every block is at its power-on values, which have every property that the steps keep. -/
theorem resetIsAsStated : Obligations.ResetIsAsStated := by
  have objects : ∀ n, State.reset.object n = .undefined := State.object_blank_table rfl
  have slots : ∀ k, State.reset.slot k = .free none := State.slot_blank_press rfl
  have outputs : ∀ o, State.reset.output o = .undefined := State.output_blank_press rfl
  have lanes : ∀ l, State.reset.lane l = [] := fun l => by cases l <;> rfl
  refine ⟨⟨rfl, rfl, rfl, rfl, rfl, slots, fun o => ?_, rfl, rfl, lanes, rfl, rfl, rfl, rfl⟩,
    ⟨shaped_reset, fun l => ?_, Nat.zero_le _, fun n => ?_, fun n => ?_, fun n d => ?_, fun n d p => ?_,
      fun _ => ⟨rfl, fun k => ?_, fun o => ?_⟩, pressSound_blank State.reset (.loading 0)⟩⟩
  · simp [State.lineClosed, outputs, OutputRecord.undefined]
  · rw [lanes]
    exact Nat.zero_le _
  · simp [objects, ObjectRecord.undefined]
  · simp [objects, ObjectRecord.undefined]
  · simp [objects, ObjectRecord.undefined]
  · simp [objects, ObjectRecord.undefined]
  · simp [slots, Slot.isPressing, Slot.operation]
  · simp [State.lineClosed, outputs, OutputRecord.undefined]

/-! ### The routine hold and the link mode -/

theorem modeOf_of_le {n : Nat} (h : n ≤ 2) : ∃ m, modeOf n = some m ∧ m.code = n ∧
    m = if n = 0 then .polled else if n = 1 then .stream else .echo := by
  interval_cases n
  · exact ⟨.polled, rfl, rfl, rfl⟩
  · exact ⟨.stream, rfl, rfl, rfl⟩
  · exact ⟨.echo, rfl, rfl, rfl⟩

theorem modeOf_of_gt {n : Nat} (h : 2 < n) : modeOf n = none := by
  obtain ⟨k, rfl⟩ := Nat.exists_eq_add_of_le' h
  rfl

/-- In any mode a part that takes frames and has room for the reply serves SET-MODE (R159). -/
theorem exec_setMode {s : State} {tag : Octet} {v : Nat} (takes : s.takesFrames = true) (room : s.repliesFull = false) :
    exec (.setMode tag v) s = .next (s.serveFrame ⟨kindSetMode, tag, [oct v]⟩ (serveSetMode v)) := by
  rw [exec_of_request (i := .setMode tag v) rfl]
  congr 1
  simp [State.takeFrame, takes, room, kindSetMode, kindDiscarded]
  rfl

/-- Settles O39: the two values of the hold, the three of the mode, and BAD-PARAM for any other. -/
theorem holdAndModeAreSet : Obligations.HoldAndModeAreSet := by
  intro s tag v
  refine ⟨fun serves => ⟨fun above => ?_, fun le => ?_⟩, fun takes room => ⟨fun above => ?_, fun le => ?_⟩⟩
  · exact exec_unchanged serves rfl (by simp [serveRequest, serveFlow, flagOf_of_gt above, refusal])
  · have bits : bit (decide (v = 1)) = v := by interval_cases v <;> rfl
    refine exec_okWith serves rfl (t := s.setHold (decide (v = 1))) ?_ (fun _ => rfl) (fun _ => id)
    simp [serveRequest, serveFlow, flagOf_of_le le, bits]
  · have served : serveSetMode v s = (s, refusal .badParam) := by simp [serveSetMode, modeOf_of_gt above]
    rw [exec_setMode takes room, State.serveFrame_quiet (by simp [served]) (by simp [served]), served]
    rfl
  · obtain ⟨m, read, code, value⟩ := modeOf_of_le le
    have served : serveSetMode v s = (s.setMode m, okWith [oct v]) := by simp [serveSetMode, read, code]
    rw [exec_setMode takes room,
      State.serveFrame_quiet (by simp [served, State.setMode]) (by simp [served, State.setMode]),
      served, ← value]
    rfl

/-! ### The scan's period and tolerance (R7) -/

theorem clampPeriod_eq (p : Nat) :
    clampPeriod p = if p = 2 ∨ p = 4 ∨ p = 5 ∨ p = 8 ∨ p = 10 ∨ p = 20 then p else 5 := by
  simp [clampPeriod]

theorem clampTolerance_eq (t : Nat) : clampTolerance t = if 15 < t then 15 else t := by
  simp [clampTolerance, clamp]

/-- Settles O11: BUSY, or the values as taken. -/
theorem setScanTakesPeriodAndTolerance : Obligations.SetScanTakesPeriodAndTolerance := by
  intro s tag p t serves
  refine ⟨fun busy => ?_, fun free p' t' hp ht => ?_⟩
  · exact exec_unchanged serves rfl (by simp [serveRequest, serveSetScan, busy, refusal])
  · rw [← clampPeriod_eq] at hp
    rw [← clampTolerance_eq] at ht
    subst hp ht
    refine exec_okWith serves rfl ?_ (fun _ => rfl) (fun _ => id)
    simp only [serveRequest, serveSetScan, free]
    rfl

/-! ### The latch of a module (R15) -/

theorem moduleSlots_le_iff (slot : Nat) : Config.moduleSlots ≤ slot ↔ 31 < slot := Iff.rfl

theorem findModule_none {ms : List ModuleRecord} {slot : Nat} (h : ∀ m ∈ ms, m.slot ≠ slot) :
    findModule ms slot = none :=
  List.find?_eq_none.mpr fun m mem => by simpa using h m mem

/-- Settles O13: the answers in their order, and the latch emptied. -/
theorem moduleLatchIsCleared : Obligations.ModuleLatchIsCleared := by
  intro s tag slot serves
  refine ⟨fun above => ?_, fun le none => ?_, fun m le found => ⟨fun failed => ?_, fun sound => ?_⟩⟩
  · exact exec_unchanged serves rfl (by simp [serveRequest, serveClearLatchModule, moduleSlots_le_iff, above, refusal])
  · exact exec_unchanged serves rfl (by
      simp [serveRequest, serveClearLatchModule, moduleSlots_le_iff, Nat.not_lt_of_le le, findModule_none none,
        refusal])
  · exact exec_unchanged serves rfl (by
      simp [serveRequest, serveClearLatchModule, moduleSlots_le_iff, Nat.not_lt_of_le le, findModule, found, failed,
        refusal])
  · refine exec_okWith serves rfl ?_ (fun _ => rfl) (fun _ => id)
    simp only [serveRequest, serveClearLatchModule, moduleSlots_le_iff, Nat.not_lt_of_le le, findModule, found, sound,
      if_false]
    rfl

end Sys2Proof.Machine
end

section
/-! PROOFS. DEFINE-MODULES (R4, R5, R6): when its entries are a sound map, when the part is in use, and the
obligation; and which input of the map a contact is (R3). -/

namespace Sys2Proof.Machine

/-! ### A sound map (R4) -/

/-- Two entries that follow each other in a sound map. -/
def Follow (a b : ModuleEntryField) : Prop := a.slot < b.slot ∧ a.last < b.last ∧ b.last ≤ a.last + 64

theorem entriesAscend_cons (above : Option Nat) (first : Nat) (e : ModuleEntryField) (es : List ModuleEntryField) :
    entriesAscend above first (e :: es) = true ↔ (∀ a, above = some a → a < e.slot) ∧ first ≤ e.last ∧
      e.last + 1 ≤ first + 64 ∧ entriesAscend (some e.slot) (e.last + 1) es = true := by
  cases above with
  | none =>
    simp only [entriesAscend, Bool.true_and, Bool.and_eq_true, decide_eq_true_eq, reduceCtorEq, false_implies,
      implies_true, true_and, and_assoc]
    exact and_congr .rfl (and_congr (by omega) .rfl)
  | some b =>
    simp only [entriesAscend, Bool.and_eq_true, decide_eq_true_eq, Option.some.injEq, forall_eq', and_assoc]
    exact and_congr .rfl (and_congr .rfl (and_congr (by omega) .rfl))

theorem entriesAscend_iff (above : Option Nat) (first : Nat) (es : List ModuleEntryField) :
    entriesAscend above first es = true ↔
      (∀ e, es.head? = some e → (∀ a, above = some a → a < e.slot) ∧ first ≤ e.last ∧ e.last + 1 ≤ first + 64) ∧
        ∀ (n : Nat) (a b : ModuleEntryField), es[n]? = some a → es[n + 1]? = some b → Follow a b := by
  induction es generalizing above first with
  | nil => simp [entriesAscend]
  | cons e es ih =>
    have step :
      (∀ (n : Nat) (a b : ModuleEntryField), (e :: es)[n]? = some a → (e :: es)[n + 1]? = some b → Follow a b) ↔
        (∀ b, es.head? = some b → Follow e b) ∧
          ∀ (n : Nat) (a b : ModuleEntryField), es[n]? = some a → es[n + 1]? = some b → Follow a b := by
      constructor
      · intro h
        exact ⟨fun b hb => h 0 e b rfl (by simpa [List.head?_eq_getElem?] using hb), fun n a b => h (n + 1) a b⟩
      · rintro ⟨head, tail⟩ n a b ha hb
        cases n with
        | zero =>
          obtain rfl : e = a := by simpa using ha
          exact head b (by simpa [List.head?_eq_getElem?] using hb)
        | succ n => exact tail n a b ha hb
    rw [step, entriesAscend_cons, ih]
    simp only [List.head?_cons, Option.some.injEq, forall_eq']
    unfold Follow
    constructor
    · rintro ⟨slot, low, high, head, tail⟩
      exact ⟨⟨slot, low, high⟩, fun b hb => by have := head b hb; exact ⟨this.1, by omega, by omega⟩, tail⟩
    · rintro ⟨⟨slot, low, high⟩, head, tail⟩
      exact ⟨slot, low, high, fun b hb => by have := head b hb; exact ⟨this.1, by omega, by omega⟩, tail⟩

theorem entryInRange_iff (e : ModuleEntryField) : entryInRange e = true ↔
    e.slot ≤ 31 ∧ (e.size = 16 ∨ e.size = 32 ∨ e.size = 64) ∧ e.last ≤ 2047 := by
  simp [entryInRange, Config.moduleSlots, Config.contacts, Nat.lt_succ_iff, and_assoc]

/-- The map is taken exactly where it has none of the faults of R4. -/
theorem readMap_eq (es : List ModuleEntryField) [Decidable (SoundMap es)] :
    readMap es = if SoundMap es then some (es.map (fun e => ⟨e.slot, e.size, e.last⟩)) else none := by
  have sound : (decide (es.length ≤ Config.moduleSlots) && es.all entryInRange && entriesAscend none 0 es) = true ↔
      SoundMap es := by
    simp only [Bool.and_eq_true, decide_eq_true_eq, List.all_eq_true, entryInRange_iff, entriesAscend_iff, SoundMap,
      and_assoc]
    refine and_congr .rfl (and_congr .rfl (and_congr ?_ .rfl))
    refine forall_congr' fun e => imp_congr .rfl ?_
    constructor
    · rintro ⟨-, -, high⟩
      omega
    · intro high
      exact ⟨nofun, by omega, by omega⟩
  unfold readMap
  by_cases h : SoundMap es
  · rw [if_pos (sound.mpr h), if_pos h]
  · rw [if_neg (fun c => h (sound.mp c)), if_neg h]

/-! ### A part in use -/

theorem State.inUse_iff (s : State) : s.inUse = true ↔
    (∃ n, (s.object n).service = .inService) ∨ ∃ k, (s.slot k).isFree = false := by
  have objects : s.table.objects.any (fun o => o.service = .inService) = true ↔
      ∃ n, (s.object n).service = .inService := by
    rw [List.any_eq_true]
    constructor
    · rintro ⟨o, mem, service⟩
      obtain ⟨n, e⟩ := List.mem_iff_getElem?.mp mem
      exact ⟨n, by simpa [State.object, e] using service⟩
    · rintro ⟨n, service⟩
      have place : n < s.table.objects.length := State.serving_lt service
      exact ⟨s.object n, by rw [State.object_eq_getElem place]; exact List.getElem_mem place, by simpa using service⟩
  have slots : s.press.slots.any (fun x => !x.isFree) = true ↔ ∃ k, (s.slot k).isFree = false := by
    rw [List.any_eq_true]
    constructor
    · rintro ⟨x, mem, busy⟩
      obtain ⟨k, e⟩ := List.mem_iff_getElem?.mp mem
      exact ⟨k, by simpa [State.slot, e] using busy⟩
    · rintro ⟨k, busy⟩
      cases e : s.press.slots[k]? with
      | none => simp [State.slot, e, Slot.isFree] at busy
      | some x => exact ⟨x, List.mem_iff_getElem?.mpr ⟨k, e⟩, by simpa [State.slot, e] using busy⟩
  rw [State.inUse, Bool.or_eq_true, objects, slots]

theorem State.inUse_eq_false {s : State} (objects : ∀ n, (s.object n).service ≠ .inService)
    (slots : ∀ k, (s.slot k).isFree = true) : s.inUse = false := by
  rw [← Bool.not_eq_true, State.inUse_iff]
  rintro (⟨n, h⟩ | ⟨k, h⟩)
  · exact objects n h
  · exact absurd (slots k) (by simp [h])

/-! ### The request -/

theorem nextScanAfter_eq (x : Scanner) (es : List ModuleEntryField) (now : Stamp) :
    nextScanAfter x (es.map (fun e => ⟨e.slot, e.size, e.last⟩)) now
      = if es = [] then none else if x.part = .unconfigured then some now else x.nextScan := by
  unfold nextScanAfter
  cases es with
  | nil => rfl
  | cons e es => cases h : x.part <;> simp

/-- Settles O10: the checks in their order, and the map taken as it is. -/
theorem defineModulesReplacesTheMap : Obligations.DefineModulesReplacesTheMap := by
  classical
  intro s tag entries serves
  refine ⟨fun busy => ?_, fun free used => ?_, fun free objects slots => ⟨fun unsound => ?_, fun sound => ?_⟩⟩
  · exact exec_unchanged serves rfl (by simp [serveRequest, serveDefineModules, busy, refusal])
  · exact exec_unchanged serves rfl (by
      simp [serveRequest, serveDefineModules, free, s.inUse_iff.mpr used, refusal])
  · exact exec_unchanged serves rfl (by
      simp [serveRequest, serveDefineModules, free, State.inUse_eq_false objects slots, readMap_eq, unsound, refusal])
  · refine exec_okWith serves rfl ?_ (fun _ => rfl) (fun _ => id)
    simp only [serveRequest, serveDefineModules, free, State.inUse_eq_false objects slots, readMap_eq, sound, if_true]
    simp only [Scanner.redefined, nextScanAfter_eq, List.isEmpty_map, List.isEmpty_iff, List.map_map]
    rfl

/-! ### The input of a contact (R3) -/

/-- The first contact of the range at a place of the map, where the first range begins at `first`. -/
def rangeStart (first : Nat) (ms : List ModuleRecord) : Nat → Nat
  | 0 => first
  | k + 1 => match ms[k]? with | some m => m.last + 1 | none => 0

theorem rangeStart_zero (ms : List ModuleRecord) (n : Nat) : rangeStart 0 ms n = firstContact ms n := by
  cases n <;> rfl

theorem rangeStart_cons {first k : Nat} {m x : ModuleRecord} {ms : List ModuleRecord} (here : ms[k]? = some x) :
    rangeStart first (m :: ms) (k + 1) = rangeStart (m.last + 1) ms k := by
  cases k <;> rfl

/-- Each range of an ascending map begins above the one before it. -/
theorem lt_rangeStart {k : Nat} {m x : ModuleRecord} {ms : List ModuleRecord}
    (ascends : (m :: ms).Pairwise (fun a b => a.last < b.last)) (here : ms[k]? = some x) :
    m.last < rangeStart (m.last + 1) ms k := by
  cases k with
  | zero => exact Nat.lt_succ_self _
  | succ k =>
    have place : k < ms.length := Nat.lt_of_succ_lt (List.getElem?_eq_some_iff.mp here).1
    have above := List.rel_of_pairwise_cons ascends (List.getElem_mem place)
    simp only [rangeStart, List.getElem?_eq_getElem place]
    omega

/-- A contact is found in the range that holds it (R3). -/
theorem locateFrom_eq_some_iff {ms : List ModuleRecord} (ascends : ms.Pairwise (fun a b => a.last < b.last)) {c : Nat}
    (pos first n input : Nat) (low : first ≤ c) : locateFrom pos first ms c = some (n, input) ↔
      ∃ k m, n = pos + k ∧ ms[k]? = some m ∧ rangeStart first ms k ≤ c ∧ c ≤ m.last ∧
        input = c - rangeStart first ms k := by
  induction ms generalizing pos first with
  | nil => simp [locateFrom]
  | cons m ms ih =>
    unfold locateFrom
    split
    next here =>
      constructor
      · rintro ⟨rfl, rfl⟩
        exact ⟨0, m, rfl, rfl, low, here, rfl⟩
      · rintro ⟨k, x, rfl, at', start, -, rfl⟩
        cases k with
        | zero => rfl
        | succ k =>
          have at' : ms[k]? = some x := at'
          have := lt_rangeStart ascends at'
          rw [rangeStart_cons at'] at start
          omega
    next past =>
      rw [ih (List.Pairwise.of_cons ascends) (pos + 1) (m.last + 1) (by omega)]
      constructor
      · rintro ⟨k, x, rfl, at', start, high, rfl⟩
        exact ⟨k + 1, x, by omega, at', by rwa [rangeStart_cons at'], high, by rw [rangeStart_cons at']⟩
      · rintro ⟨k, x, rfl, at', start, high, rfl⟩
        cases k with
        | zero =>
          obtain rfl : m = x := by simpa using at'
          exact absurd high past
        | succ k =>
          have at' : ms[k]? = some x := at'
          rw [rangeStart_cons at'] at start
          exact ⟨k, x, by omega, at', start, high, by rw [rangeStart_cons at']⟩

/-- Settles O9: a contact is mapped where its number in its range is below the size. -/
theorem mapGivesInputs : Obligations.MapGivesInputs := by
  intro ms c n input ascends
  have pairwise : ms.Pairwise (fun a b => a.last < b.last) := by
    have : Trans (InvImage Nat.lt ModuleRecord.last) (InvImage Nat.lt ModuleRecord.last)
        (InvImage Nat.lt ModuleRecord.last) := ⟨Nat.lt_trans⟩
    refine List.isChain_iff_pairwise (R := InvImage Nat.lt ModuleRecord.last).mp
      (List.isChain_iff_getElem.mpr fun i hi => ?_)
    exact ascends i _ _ (List.getElem?_eq_getElem (Nat.lt_of_succ_lt hi)) (List.getElem?_eq_getElem hi)
  have found : ∀ n input, locate ms c = some (n, input) ↔
      ∃ m, ms[n]? = some m ∧ firstContact ms n ≤ c ∧ c ≤ m.last ∧ input = c - firstContact ms n := by
    intro n input
    rw [locate, locateFrom_eq_some_iff pairwise 0 0 n input (Nat.zero_le c)]
    simp only [Nat.zero_add, rangeStart_zero]
    constructor
    · rintro ⟨k, m, rfl, h⟩
      exact ⟨m, h⟩
    · rintro ⟨m, h⟩
      exact ⟨n, m, rfl, h⟩
  unfold mappedAt
  split
  next none =>
    refine ⟨nofun, fun ⟨m, at', start, high, e, _⟩ => ?_⟩
    exact absurd ((found n input).mpr ⟨m, at', start, high, e⟩) (by simp [none])
  next pos i some =>
    obtain ⟨m, at', start, high, rfl⟩ := (found pos i).mp some
    simp only [at']
    constructor
    · intro h
      split at h
      next mapped =>
        obtain ⟨rfl, rfl⟩ := Prod.mk.inj (Option.some.inj h)
        exact ⟨m, at', start, high, rfl, mapped⟩
      · exact nomatch h
    · rintro ⟨x, at'', start', high', rfl, mapped⟩
      have same := some.symm.trans ((found n _).mpr ⟨x, at'', start', high', rfl⟩)
      obtain ⟨rfl, -⟩ := Prod.mk.inj (Option.some.inj same)
      obtain rfl : m = x := Option.some.inj (at'.symm.trans at'')
      rw [if_pos mapped]

end Sys2Proof.Machine
end

section
/-! PROOFS. One contact at a completion (chapters 2 and 3): the sample, the chatter count, the silence check and the
cycle, one equation per case of each, what they keep, and the obligations on them (R26 to R32, R41 to R47). -/

namespace Sys2Proof.Machine

/-! ### The sample (R27, R28) -/

section Sample

variable {p : ContactProfile} {v : Level} {s : Stamp} {c : Contact}

theorem takeSample_of_accepted (h : c.accepted = some v) :
    takeSample p v s c = ({ c with candidate := none }, .nothing) := by
  simp [takeSample, h]

theorem takeSample_of_short (h : c.accepted ≠ some v) (short : (nextCandidate v s c.candidate).count < p.depth) :
    takeSample p v s c = ({ c with candidate := some (nextCandidate v s c.candidate) }, .nothing) := by
  simp [takeSample, h, Nat.not_le_of_lt short]

theorem takeSample_of_unknown (h : c.accepted = none) (long : p.depth ≤ (nextCandidate v s c.candidate).count) :
    takeSample p v s c
      = ({ c with accepted := some v, candidate := none }, .acquired (nextCandidate v s c.candidate).stamp) := by
  simp [takeSample, h, long]

theorem takeSample_of_edge (h : c.accepted ≠ some v) (known : c.accepted ≠ none)
    (long : p.depth ≤ (nextCandidate v s c.candidate).count) :
    takeSample p v s c =
      (countEdge p (nextCandidate v s c.candidate).stamp { c with accepted := some v, candidate := none },
      .edge (nextCandidate v s c.candidate).stamp) := by
  simp [takeSample, h, long, Option.isSome_iff_ne_none.mpr known]

/-- The four things a sample can do. -/
theorem takeSample_cases (p : ContactProfile) (v : Level) (s : Stamp) (c : Contact) :
    takeSample p v s c = ({ c with candidate := none }, .nothing) ∨
      ((nextCandidate v s c.candidate).count < p.depth ∧
        takeSample p v s c = ({ c with candidate := some (nextCandidate v s c.candidate) }, .nothing)) ∨
      takeSample p v s c
        = ({ c with accepted := some v, candidate := none }, .acquired (nextCandidate v s c.candidate).stamp) ∨
      (c.accepted ≠ none ∧ takeSample p v s c
        = (countEdge p (nextCandidate v s c.candidate).stamp { c with accepted := some v, candidate := none },
          .edge (nextCandidate v s c.candidate).stamp)) := by
  by_cases same : c.accepted = some v
  · exact .inl (takeSample_of_accepted same)
  · by_cases short : (nextCandidate v s c.candidate).count < p.depth
    · exact .inr (.inl ⟨short, takeSample_of_short same short⟩)
    · by_cases unknown : c.accepted = none
      · exact .inr (.inr (.inl (takeSample_of_unknown unknown (Nat.le_of_not_lt short))))
      · exact .inr (.inr (.inr ⟨unknown, takeSample_of_edge same unknown (Nat.le_of_not_lt short)⟩))

theorem nextCandidate_eq {k : Candidate} (extends' : ∀ old, c.candidate = some old → old.level = v →
      k = ⟨v, old.count + 1, old.stamp⟩)
    (starts : (∀ old, c.candidate = some old → old.level ≠ v) → k = ⟨v, 1, s⟩) : nextCandidate v s c.candidate = k := by
  cases candidate : c.candidate with
  | none => exact (starts (by simp [candidate])).symm
  | some old =>
    by_cases level : old.level = v
    · rw [extends' old candidate level, nextCandidate, if_pos level, ← level]
    · rw [nextCandidate, if_neg level]
      exact (starts (by simpa [candidate] using level)).symm

/-- The candidate after a sample is younger than whatever the one before and the sample are younger than. -/
theorem lt_nextCandidate_stamp {t : Stamp} (now : t < s) (before : ∀ k, c.candidate = some k → t < k.stamp) :
    t < (nextCandidate v s c.candidate).stamp := by
  cases candidate : c.candidate with
  | none => exact now
  | some old =>
    simp only [nextCandidate]
    split
    · exact before old candidate
    · exact now

theorem nextCandidate_count_pos : 0 < (nextCandidate v s c.candidate).count := by
  unfold nextCandidate
  split
  · split <;> exact Nat.succ_pos _
  · exact Nat.succ_pos _

end Sample

/-- Settles O18: the candidate that a sample extends or starts, and what is made of it. -/
theorem sampleIsDebounced : Obligations.SampleIsDebounced := by
  intro p v s c
  refine ⟨takeSample_of_accepted, fun differs k extends' starts => ?_⟩
  obtain rfl := nextCandidate_eq extends' starts
  exact ⟨takeSample_of_short differs, fun long unknown => takeSample_of_unknown unknown long,
    fun long known => takeSample_of_edge differs known long⟩

/-! ### The chatter count (R30, R31) -/

theorem countEdge_of_unchecked {p : ContactProfile} (t : Stamp) (c : Contact) (h : p.limit = 0 ∨ p.flash ≠ none) :
    countEdge p t c = c := by
  have unchecked : p.checksChatter = false := by
    obtain zero | flash := h
    · simp [ContactProfile.checksChatter, zero]
    · exact ContactProfile.checksChatter_of_flash flash
  simp [countEdge, unchecked]

theorem countEdge_of_checked {p : ContactProfile} (t : Stamp) (c : Contact) (limit : p.limit ≠ 0)
    (plain : p.flash = none) :
    countEdge p t c = { c with
      chatterCount := min (c.chatterCount + 1) 15
      leakRef := if c.chatterCount = 0 then some t else c.leakRef
      chattering := c.chattering || decide (p.limit ≤ min (c.chatterCount + 1) 15) } := by
  simp [countEdge, ContactProfile.checksChatter, limit, plain]

/-- An edge changes the chatter fields alone. -/
theorem countEdge_fields (p : ContactProfile) (t : Stamp) (c : Contact) :
    (countEdge p t c).accepted = c.accepted ∧ (countEdge p t c).candidate = c.candidate ∧
      (countEdge p t c).flash = c.flash := by
  unfold countEdge
  split <;> exact ⟨rfl, rfl, rfl⟩

section Leak

variable {p : ContactProfile} {s r : Stamp} {c : Contact}

theorem leakCheck_of_none (h : c.leakRef = none) : leakCheck p s c = (c, none) := by
  simp [leakCheck, h]

theorem leakCheck_of_early (h : c.leakRef = some r) (early : s < r + p.leak) : leakCheck p s c = (c, none) := by
  simp [leakCheck, h, Nat.not_le_of_lt early]

theorem leakCheck_of_several (h : c.leakRef = some r) (due : r + p.leak ≤ s) (several : 1 < c.chatterCount) :
    leakCheck p s c = ({ c with chatterCount := c.chatterCount - 1, leakRef := some (r + p.leak) }, none) := by
  have : c.chatterCount ≠ 0 ∧ c.chatterCount ≠ 1 := by omega
  simp [leakCheck, h, due, this]

theorem leakCheck_of_last (h : c.leakRef = some r) (due : r + p.leak ≤ s) (last : c.chatterCount = 1) :
    leakCheck p s c = ({ c with chatterCount := 0, leakRef := none, chattering := false },
      if c.chattering = true then some s else none) := by
  simp [leakCheck, h, due, last]

/-- The three things the leak check can do. -/
theorem leakCheck_cases (p : ContactProfile) (s : Stamp) (c : Contact) :
    leakCheck p s c = (c, none) ∨
      (∃ r, c.leakRef = some r ∧ 1 < c.chatterCount ∧
        leakCheck p s c = ({ c with chatterCount := c.chatterCount - 1, leakRef := some (r + p.leak) }, none)) ∨
      leakCheck p s c = ({ c with chatterCount := 0, leakRef := none, chattering := false },
        if c.chattering = true then some s else none) := by
  cases ref : c.leakRef with
  | none => exact .inl (leakCheck_of_none ref)
  | some r =>
    by_cases early : s < r + p.leak
    · exact .inl (leakCheck_of_early ref early)
    · have due := Nat.le_of_not_lt early
      by_cases zero : c.chatterCount = 0
      · exact .inl (by simp [leakCheck, ref, zero])
      · by_cases last : c.chatterCount = 1
        · exact .inr (.inr (leakCheck_of_last ref due last))
        · have several : 1 < c.chatterCount := by omega
          exact .inr (.inl ⟨r, rfl, several, leakCheck_of_several ref due several⟩)

/-- The leak check changes the chatter fields alone. -/
theorem leakCheck_fields (p : ContactProfile) (s : Stamp) (c : Contact) :
    (leakCheck p s c).1.accepted = c.accepted ∧ (leakCheck p s c).1.candidate = c.candidate ∧
      (leakCheck p s c).1.flash = c.flash := by
  obtain e | ⟨r, -, -, e⟩ | e := leakCheck_cases p s c <;> rw [e] <;> exact ⟨rfl, rfl, rfl⟩

/-- A contact that leaves CHATTERING counts nothing any more. -/
theorem leakCheck_left (before : c.chattering = true) (after : (leakCheck p s c).1.chattering = false) :
    (leakCheck p s c).1.chatterCount = 0 := by
  obtain e | ⟨r, -, -, e⟩ | e := leakCheck_cases p s c
  · rw [e] at after
    exact nomatch before.symm.trans after
  · rw [e] at after
    exact nomatch before.symm.trans after
  · rw [e]

end Leak

theorem takeSample_flash (p : ContactProfile) (v : Level) (s : Stamp) (c : Contact) :
    (takeSample p v s c).1.flash = c.flash := by
  obtain e | ⟨-, e⟩ | e | ⟨-, e⟩ := takeSample_cases p v s c <;> rw [e]
  exact (countEdge_fields p _ _).2.2

theorem sampleStep_flash (p : ContactProfile) (s : Stamp) (sample : Option Level) (c : Contact) :
    (sampleStep p s sample c).1.flash = c.flash := by
  cases sample with
  | none => rfl
  | some v => exact takeSample_flash p v s c

/-- One edge alone does not reach an H of 2 or more (R21, R30). -/
theorem sampleStep_quiet {p : ContactProfile} {c : Contact} (s : Stamp) (sample : Option Level) (limit : 2 ≤ p.limit)
    (quiet : c.chattering = false) (zero : c.chatterCount = 0) : (sampleStep p s sample c).1.chattering = false := by
  cases sample with
  | none => exact quiet
  | some v =>
    obtain e | ⟨-, e⟩ | e | ⟨-, e⟩ := takeSample_cases p v s c <;> rw [sampleStep, e]
    · exact quiet
    · exact quiet
    · exact quiet
    · unfold countEdge
      split
      · simp only [quiet, zero, Bool.false_or, decide_eq_false_iff_not]
        omega
      · exact quiet

/-- A contact as a completion finds it, its level gone with its module's (R29, R32). -/
def ContactInput.enter (i : ContactInput) (c : Contact) : Contact := if i.lost then c.loseLevel else c

/-- The leak check and the sample of a completion, one after the other (R32). -/
def sampled (p : ContactProfile) (s : Stamp) (i : ContactInput) (c : Contact) : Contact × SampleEvent :=
  sampleStep p s i.sample (leakCheck p s (i.enter c)).1

theorem filterContact_eq (p : ContactProfile) (flash : Option FlashProfile) (s : Stamp) (i : ContactInput)
    (c : Contact) :
    filterContact p flash s i c = ((classStep flash s (sampled p s i c).2 (sampled p s i c).1).1,
      later (if i.lost then some s else none) (later (leakCheck p s (i.enter c)).2 (later (sampled p s i c).2.stamp
        (classStep flash s (sampled p s i c).2 (sampled p s i c).1).2))) := by
  rfl

theorem classStep_chattering (flash : Option FlashProfile) (s : Stamp) (e : SampleEvent) (c : Contact) :
    (classStep flash s e c).1.chattering = c.chattering := by
  cases flash <;> rfl

/-- A contact that loses its level is as after power-on, under its profile (R29). -/
theorem leakCheck_loseLevel (p : ContactProfile) (s : Stamp) (c : Contact) :
    leakCheck p s c.loseLevel = (c.loseLevel, none) := leakCheck_of_none rfl

/-- Settles O20: what an edge counts and what leaks; the count that an exit leaves is too small to enter again. -/
theorem chatterIsCountedAndLeaks : Obligations.ChatterIsCountedAndLeaks := by
  intro p c t s
  refine ⟨countEdge_of_unchecked t c, fun limit plain => ⟨_, rfl, ?_⟩, fun r ref _ => ⟨leakCheck_of_early ref,
    leakCheck_of_several ref, leakCheck_of_last ref⟩, fun flash i limit before after => ?_⟩
  · rw [countEdge_of_checked t c limit plain]
    exact ⟨rfl, rfl, by simp, rfl⟩
  · have zero := leakCheck_left before after
    rw [filterContact_eq]
    refine (classStep_chattering _ _ _ _).trans ?_
    unfold sampled ContactInput.enter
    split
    · rw [leakCheck_loseLevel]
      exact sampleStep_quiet s _ limit rfl rfl
    · exact sampleStep_quiet s _ limit after zero

/-! ### The later of stamps -/

/-- `x` is the latest of the stamps that are there. -/
def IsLatest (ts : List (Option Stamp)) (x : Option Stamp) : Prop :=
  (x = none ↔ ∀ t ∈ ts, t = none) ∧ ∀ y, x = some y → some y ∈ ts ∧ ∀ z, some z ∈ ts → z ≤ y

theorem isLatest_single (t : Option Stamp) : IsLatest [t] t :=
  ⟨by simp, fun y e => ⟨by simp [e], fun z mem => by
    obtain e' : some z = t := by simpa using mem
    exact (Option.some.inj (e'.trans e)).le⟩⟩

theorem IsLatest.cons {ts : List (Option Stamp)} {x : Option Stamp} (t : Option Stamp) (h : IsLatest ts x) :
    IsLatest (t :: ts) (later t x) := by
  obtain ⟨none, some⟩ := h
  cases t with
  | none => exact ⟨by simpa [later] using none, fun y e => by simpa using some y e⟩
  | some a =>
    cases x with
    | none =>
      have absent := none.mp rfl
      refine ⟨by simp [later], fun y e => ?_⟩
      obtain rfl : a = y := Option.some.inj e
      refine ⟨by simp, fun z mem => ?_⟩
      obtain e | mem := List.mem_cons.mp mem
      · exact (Option.some.inj e).le
      · exact nomatch absent _ mem
    | some b =>
      obtain ⟨there, above⟩ := some b rfl
      refine ⟨by simp [later], fun y e => ?_⟩
      obtain rfl : max a b = y := Option.some.inj e
      refine ⟨?_, fun z mem => ?_⟩
      · obtain e | e := max_choice a b
        · rw [e]
          exact List.mem_cons_self
        · rw [e]
          exact List.mem_cons_of_mem _ there
      · obtain e | mem := List.mem_cons.mp mem
        · exact (Option.some.inj e).le.trans (le_max_left a b)
        · exact (above z mem).trans (le_max_right a b)

theorem IsLatest.unique {ts : List (Option Stamp)} {x y : Option Stamp} (hx : IsLatest ts x) (hy : IsLatest ts y) :
    x = y := by
  cases x with
  | none => exact (hy.1.mpr (hx.1.mp rfl)).symm
  | some a =>
    cases y with
    | none => exact hx.1.mpr (hy.1.mp rfl)
    | some b =>
      obtain ⟨memA, aboveA⟩ := hx.2 a rfl
      obtain ⟨memB, aboveB⟩ := hy.2 b rfl
      rw [le_antisymm (aboveB a memA) (aboveA b memB)]

/-! ### The silence check (R43) -/

section Silence

variable {f : FlashProfile} {s e : Stamp} {r : FlashRecord}

theorem silenceCheck_of_none (leading : r.leading = none) (trailing : r.trailing = none) :
    silenceCheck f s r = (r, none) := by
  simp [silenceCheck, later, leading, trailing]

theorem silenceCheck_of_recent (last : later r.leading r.trailing = some e) (recent : s - e ≤ f.pMax) :
    silenceCheck f s r = (r, none) := by
  have : ¬ e + f.pMax < s := Nat.not_lt_of_le (tsub_le_iff_left.mp recent)
  simp [silenceCheck, last, this]

theorem silenceCheck_of_silent (last : later r.leading r.trailing = some e) (silent : f.pMax < s - e) :
    silenceCheck f s r = ({ r with cls := .steady, leading := none, trailing := none, conforming := 0 },
      if r.cls = .steady then none else some s) := by
  have : e + f.pMax < s := lt_tsub_iff_left.mp silent
  simp [silenceCheck, last, this]

/-- The silence check leaves the record, or makes it STEADY. -/
theorem silenceCheck_cases (f : FlashProfile) (s : Stamp) (r : FlashRecord) :
    (silenceCheck f s r).1 = r ∨ (silenceCheck f s r).1.cls = .steady := by
  unfold silenceCheck
  split
  · exact .inl rfl
  · split
    · exact .inr rfl
    · exact .inl rfl

end Silence

/-- Settles O21: silence is judged from the later edge, and makes a contact STEADY that shows its level again. -/
theorem silenceIsFound : Obligations.SilenceIsFound := by
  intro f s r
  refine ⟨silenceCheck_of_none, fun e he => ?_⟩
  have last : later r.leading r.trailing = some e := by
    obtain ⟨a, b, ha, hb, rfl⟩ | ⟨ha, hb⟩ | ⟨ha, hb⟩ := he <;> simp [later, ha, hb]
  refine ⟨silenceCheck_of_recent last, fun silent => ?_⟩
  rw [silenceCheck_of_silent last silent]
  refine ⟨rfl, fun steady => by simp [steady], fun moving => ⟨by simp [moving], fun c l inverted _ level quiet => ?_⟩⟩
  exact lampView_of_steady_quiet (c := { c with flash := _ }) level rfl quiet

/-! ### Edges and cycles (R41, R44 to R47) -/

section Edges

variable {f : FlashProfile} {v : Level} {t lp w : Stamp} {r : FlashRecord}

theorem flashEdge_of_trailing (h : v ≠ f.active) : flashEdge f v t r = ({ r with trailing := some t }, none) := by
  simp [flashEdge, h]

theorem flashEdge_of_first (h : v = f.active) (none' : r.leading = none) :
    flashEdge f v t r = ({ r with leading := some t, conforming := 0 }, none) := by
  simp [flashEdge, h, leadingEdge, none']

/-- A leading edge that completes a cycle: the cycle is judged, and the edge starts the next. -/
theorem flashEdge_of_cycle (h : v = f.active) (leading : r.leading = some lp) (trailing : r.trailing = some w) :
    flashEdge f v t r
      = ({ (judgeCycle f t (t - lp) (100 * (w - lp) / (t - lp))
          { r with lastPeriod := some (t - lp), lastOn := some (w - lp) }).1 with leading := some t },
        (judgeCycle f t (t - lp) (100 * (w - lp) / (t - lp))
          { r with lastPeriod := some (t - lp), lastOn := some (w - lp) }).2) := by
  simp [flashEdge, h, leadingEdge, leading, trailing, dutyOf]

theorem FlashProfile.conforms_iff (f : FlashProfile) (period duty : Nat) : f.conforms period duty = true ↔
    f.pMin ≤ period ∧ period ≤ f.pMax ∧ f.dMin ≤ duty ∧ duty ≤ f.dMax := by
  simp [FlashProfile.conforms, and_assoc]

/-- What a contact FLASHING has behind it (R47). -/
def FlashRecord.confirmed (f : FlashProfile) (r : FlashRecord) : Prop :=
  r.cls = .flashing → f.confirm ≤ r.conforming ∧ r.leading ≠ none

theorem confirmed_judgeCycle {period duty : Nat} (confirm : f.confirm ≤ 4) (h : r.confirmed f) :
    (judgeCycle f t period duty r).1.cls = .flashing → f.confirm ≤ (judgeCycle f t period duty r).1.conforming := by
  unfold judgeCycle
  split
  · dsimp only
    split
    next enters => exact fun _ => enters.2
    · intro flashing
      have := (h flashing).1
      dsimp only
      omega
  · split
    · exact nofun
    next other => exact fun flashing => absurd flashing other

theorem confirmed_flashEdge (confirm : f.confirm ≤ 4) (h : r.confirmed f) : (flashEdge f v t r).1.confirmed f := by
  unfold flashEdge leadingEdge
  split
  · split
    next none => exact fun flashing => absurd none (h flashing).2
    next lp leading =>
      intro flashing
      exact ⟨confirmed_judgeCycle (r := { r with lastPeriod := _, lastOn := _ }) confirm h flashing, by simp⟩
  · exact h

theorem confirmed_silenceCheck {s : Stamp} (h : r.confirmed f) : (silenceCheck f s r).1.confirmed f := by
  obtain e | steady := silenceCheck_cases f s r
  · rwa [e]
  · exact fun flashing => nomatch steady.symm.trans flashing

theorem confirmed_classify {s : Stamp} {accepted : Option Level} {e : SampleEvent} (confirm : f.confirm ≤ 4)
    (h : r.confirmed f) : (classify f s accepted e r).1.confirmed f := by
  have silent : (silenceCheck f s r).1.confirmed f := confirmed_silenceCheck h
  unfold classify
  dsimp only
  split
  · exact confirmed_flashEdge confirm silent
  · exact silent

end Edges

/-- Settles O22: the edges one by one, and FLASHING kept to its ground by each step of a completion. -/
theorem edgesAreMeasured : Obligations.EdgesAreMeasured := by
  refine ⟨fun f v t r =>
    ⟨flashEdge_of_trailing, flashEdge_of_first, fun lp w active leading trailing conforms iff => ?_⟩,
    fun p f s i c confirm ground => ?_⟩
  · rw [← FlashProfile.conforms_iff] at iff
    rw [flashEdge_of_cycle active leading trailing]
    unfold judgeCycle
    refine ⟨fun yes stays => ?_, fun yes moves enough => ?_, fun no moves => ?_, fun no flashing => ?_⟩
    · have stays' : ¬ (r.cls ≠ .flashing ∧ f.confirm ≤ min (r.conforming + 1) 4) := by
        rintro ⟨moves, enough⟩
        exact stays.elim moves (fun short => absurd enough (Nat.not_le_of_lt short))
      rw [if_pos (iff.mp yes), if_neg stays', trailing]
    · rw [if_pos (iff.mp yes), if_pos ⟨moves, enough⟩, trailing]
    · rw [if_neg (fun c => no (iff.mpr c)), if_neg moves, trailing]
    · rw [if_neg (fun c => no (iff.mpr c)), if_pos flashing, trailing]
  · rw [filterContact_eq]
    refine confirmed_classify confirm ?_
    rw [sampled, sampleStep_flash, (leakCheck_fields p s _).2.2, ContactInput.enter]
    split
    · exact nofun
    · exact ground

/-! ### The order of a completion, and what it keeps (R27, R32) -/

theorem takeSample_edge_known {p : ContactProfile} {v : Level} {s x : Stamp} {c : Contact}
    (edge : (takeSample p v s c).2 = .edge x) : (takeSample p v s c).1.accepted = some v := by
  obtain e | ⟨-, e⟩ | e | ⟨-, e⟩ := takeSample_cases p v s c <;> rw [e] at edge ⊢
  · exact nomatch edge
  · exact nomatch edge
  · exact (countEdge_fields p _ _).1

theorem sampled_edge_known {p : ContactProfile} {s x : Stamp} {i : ContactInput} {c : Contact}
    (edge : (sampled p s i c).2 = .edge x) : ∃ v, (sampled p s i c).1.accepted = some v := by
  cases sample : i.sample with
  | none => simp [sampled, sampleStep, sample] at edge
  | some v =>
    simp only [sampled, sample] at edge ⊢
    exact ⟨v, takeSample_edge_known edge⟩

/-- Without an edge the classifier makes the silence check alone (R42). -/
theorem classify_of_no_edge (f : FlashProfile) (s : Stamp) (accepted : Option Level) {e : SampleEvent} (r : FlashRecord)
    (h : ∀ x, e ≠ .edge x) : classify f s accepted e r = silenceCheck f s r := by
  cases e with
  | nothing => rfl
  | acquired x => rfl
  | edge x => exact absurd rfl (h x)

theorem classify_of_edge (f : FlashProfile) (s : Stamp) (v : Level) (x : Stamp) (r : FlashRecord) :
    classify f s (some v) (.edge x) r = ((flashEdge f v x (silenceCheck f s r).1).1,
      later (silenceCheck f s r).2 (flashEdge f v x (silenceCheck f s r).1).2) := rfl

theorem contactBounded_loseLevel (p : ContactProfile) (c : Contact) : ContactBounded p c.loseLevel :=
  ⟨nofun, Nat.zero_le _, by simp [Contact.loseLevel, Contact.fresh], nofun⟩

theorem ContactBounded.leakCheck {p : ContactProfile} {c : Contact} (s : Stamp) (h : ContactBounded p c) :
    ContactBounded p (leakCheck p s c).1 := by
  obtain e | ⟨r, -, several, e⟩ | e := leakCheck_cases p s c <;> rw [e]
  · exact h
  · have := h.chatter
    exact ⟨h.agreement, by dsimp only; omega, by simp; omega, fun _ => by dsimp only; omega⟩
  · exact ⟨h.agreement, Nat.zero_le _, by simp, nofun⟩

theorem ContactBounded.countEdge {p : ContactProfile} {c : Contact} (t : Stamp) (h : ContactBounded p c) :
    ContactBounded p (countEdge p t c) := by
  unfold Machine.countEdge
  split
  · refine ⟨h.agreement, Nat.min_le_right _ _, ?_, fun _ => ?_⟩
    · dsimp only
      by_cases zero : c.chatterCount = 0
      · simp [zero]
      · simp only [zero, if_false, h.leak]
        omega
    · dsimp only
      omega
  · exact h

theorem ContactBounded.takeSample {p : ContactProfile} {c : Contact} (v : Level) (s : Stamp) (h : ContactBounded p c) :
    ContactBounded p (takeSample p v s c).1 := by
  have dropped : ∀ l, ContactBounded p { c with accepted := l, candidate := none } := fun l =>
    ⟨nofun, h.chatter, h.leak, h.quiet⟩
  obtain e | ⟨short, e⟩ | e | ⟨-, e⟩ := takeSample_cases p v s c <;> rw [e]
  · exact dropped c.accepted
  · refine ⟨fun k hk => ?_, h.chatter, h.leak, h.quiet⟩
    obtain rfl := Option.some.inj hk
    exact ⟨nextCandidate_count_pos, short⟩
  · exact dropped (some v)
  · exact (dropped (some v)).countEdge _

theorem ContactBounded.filterContact {p : ContactProfile} {c : Contact} (flash : Option FlashProfile) (s : Stamp)
    (i : ContactInput) (h : ContactBounded p c) : ContactBounded p (filterContact p flash s i c).1 := by
  have entered : ContactBounded p (i.enter c) := by
    unfold ContactInput.enter
    split
    · exact contactBounded_loseLevel p c
    · exact h
  have samples : ContactBounded p (sampled p s i c).1 := by
    unfold sampled sampleStep
    split
    · exact entered.leakCheck s
    · exact (entered.leakCheck s).takeSample _ s
  rw [filterContact_eq]
  cases flash with
  | none => exact samples
  | some f => exact ⟨samples.agreement, samples.chatter, samples.leak, samples.quiet⟩

/-- Settles O19: the steps of R32 in their order, each of which keeps the bounds; and an edge is as young as its
candidate. -/
theorem filterKeepsItsBounds : Obligations.FilterKeepsItsBounds := by
  refine ⟨?order, fun p flash s i c _ => ContactBounded.filterContact flash s i, fun p v t s c now before => ?young⟩
  case order =>
    intro p flash s i c c1 c2 c3 c4 t1 t2 t3 t4 stamp e lost kept leak still sample quiet moved plain flashing
      absent latest
    have entered : i.enter c = c1 ∧ (if i.lost then some s else none) = t1 := by
      unfold ContactInput.enter
      cases b : i.lost with
      | false => exact ⟨(kept b).1.symm, (kept b).2.symm⟩
      | true => exact ⟨(lost b).1.symm, (lost b).2.symm⟩
    have samples : sampled p s i c = (c3, e) := by
      rw [sampled, entered.1, leak]
      cases b : i.sample with
      | none => exact (still b).symm
      | some v => exact (sample v b).symm
    have stamped : e.stamp = t3 := by
      cases e with
      | nothing => exact (quiet rfl).symm
      | acquired x => exact (moved x (.inr rfl)).symm
      | edge x => exact (moved x (.inl rfl)).symm
    have classed : classStep flash s e c3 = (c4, t4) := by
      cases flash with
      | none => rw [(plain rfl).1, (plain rfl).2]; rfl
      | some f =>
        obtain ⟨same, silent, edged⟩ := flashing f rfl
        have found : classify f s c3.accepted e c3.flash = (c4.flash, t4) := by
          by_cases edge : ∃ x, e = .edge x
          · obtain ⟨x, rfl⟩ := edge
            obtain ⟨v, level⟩ := sampled_edge_known (p := p) (s := s) (x := x) (i := i) (c := c) (by rw [samples])
            rw [samples] at level
            obtain ⟨t5, t6, silence, cycle, without, both⟩ := edged x v rfl level
            rw [level, classify_of_edge, cycle, silence]
            cases t5 with
            | none => rw [without rfl]; rfl
            | some y =>
              rw [both y rfl]
              cases t6 with
              | none => simp [later]
              | some z => rfl
          · have none : ∀ x, e ≠ .edge x := fun x h => edge ⟨x, h⟩
            rw [classify_of_no_edge f s _ _ none, silent none]
        calc classStep (some f) s e c3
          _ = ({ c3 with flash := (classify f s c3.accepted e c3.flash).1 }, (classify f s c3.accepted e c3.flash).2) :=
            rfl
          _ = (c4, t4) := by rw [found, ← same]
    have last : later t1 (later t2 (later t3 t4)) = stamp := by
      refine ((((isLatest_single t4).cons t3).cons t2).cons t1).unique ⟨?_, fun x hx => ?_⟩
      · simpa using absent
      · simpa [eq_comm] using latest x hx
    rw [filterContact_eq, samples, entered.1, entered.2, leak, stamped, classed, last]
  case young =>
    refine ⟨fun k hk => ?_, fun x hx => ?_⟩
    · obtain e | ⟨-, e⟩ | e | ⟨-, e⟩ := takeSample_cases p v s c <;> rw [e] at hk
      · exact nomatch hk
      · obtain rfl := Option.some.inj hk
        exact lt_nextCandidate_stamp now before
      · exact nomatch hk
      · rw [(countEdge_fields p _ _).2.1] at hk
        exact nomatch hk
    · obtain e | ⟨-, e⟩ | e | ⟨-, e⟩ := takeSample_cases p v s c <;> rw [e] at hx ⊢
      · exact nomatch hx
      · exact nomatch hx
      · exact nomatch hx
      · obtain rfl := SampleEvent.edge.inj hx
        exact ⟨lt_nextCandidate_stamp now before, (countEdge_fields p _ _).2.1⟩

end Sys2Proof.Machine
end

section
/-! PROOFS. The rules of the kinds, one equation per line of each, and one resolution (R73 to R77, R81 to R90). -/

namespace Sys2Proof.Machine

/-! ### One resolution -/

theorem StateCode.latches_iff (c : StateCode) : c.latches = true ↔
    (c = .lost ∨ c = .contradiction ∨ c = .dark ∨ c = .fault ∨ c = .irregular) := by
  cases c <;> simp [StateCode.latches, StateCode.isAlarm]

theorem nextLatch_eq_ite (latch : Option ObjectLatch) (old new : StateCode) (stamp : Stamp) :
    nextLatch latch old new stamp = if latch = none ∧ new ≠ old ∧
      (new = .lost ∨ new = .contradiction ∨ new = .dark ∨ new = .fault ∨ new = .irregular) then some ⟨new, stamp⟩
      else latch := by
  simp only [← StateCode.latches_iff]
  cases latch with
  | some l => simp [nextLatch]
  | none => simp [nextLatch, and_comm]

theorem nextLatch_unknown (latch : Option ObjectLatch) (old : StateCode) (stamp : Stamp) :
    nextLatch latch old .unknown stamp = latch := by
  simp [nextLatch_eq_ite]

/-- Settles O32: one resolution in its two cases, and what it writes. -/
theorem resolutionStampsAndLatches : Obligations.ResolutionStampsAndLatches := by
  refine ⟨fun s n cause stamp expired => ⟨fun resting => ?_, ?_⟩, ?_⟩
  · obtain ⟨e, -⟩ | ⟨d, old, serving, -⟩ := s.resolve_cases n cause stamp expired
    · exact e
    · exact absurd serving resting
  · rintro d old r service definition presented rfl
    rw [State.resolve_of_serving service definition presented]
    refine ⟨fun none => ?_, fun c some => ?_⟩
    · rw [none]
      rfl
    · rw [some]
      rfl
  · intro n cause stamp o d old k recorded latch new hr hl hn
    have recorded' : recordedStamp o.lastStamp stamp = recorded := by
      rw [hr]
      unfold recordedStamp
      cases o.lastStamp <;> rfl
    have latch' : nextLatch o.latch old.code k.code recorded = latch := by rw [nextLatch_eq_ite, hl]
    have presents : k.presents o old stamp = new := by
      unfold KindOutcome.presents
      rw [recorded', latch', hn]
    refine ⟨⟨recorded', latch'⟩, ?_, fun same => ?_, fun changed => ?_⟩
    · rw [resolveRecord_timer]
      cases k.timer <;> rfl
    · rw [resolveRecord_of_same _ _ _ _ _ _ _ (presents.trans same)]
      exact ⟨rfl, rfl, rfl, rfl⟩
    · have code : new.code = k.code := by rw [hn]
      rw [resolveRecord_of_changed _ _ _ _ _ _ _ (fun e => changed (presents.symm.trans e)), presents, recorded',
        latch', code]
      exact ⟨rfl, rfl, rfl, rfl⟩

/-! ### The rules -/

section Rules

variable {held : StateCode} {timing : Nat} {expired : Bool}

theorem trackRule_of_chatter {clear : LevelView} {back : Option LevelView}
    (h : clear = .chatter ∨ back = some .chatter) :
    trackRule clear back held timing expired = ⟨.occupied, none, .ofChatter true, .cancel⟩ := if_pos h

theorem trackRule_of_both : trackRule .active (some .active) held timing expired
    = ⟨.contradiction, none, .empty, .cancel⟩ := by
  simp [trackRule]

theorem trackRule_of_inactive {back : Option LevelView} (h : back ≠ some .chatter) :
    trackRule .inactive back held timing expired = ⟨.occupied, none, .empty, .cancel⟩ := by
  simp [trackRule, h]

theorem trackRule_of_clear {back : Option LevelView} (h : back = none ∨ back = some .inactive) :
    trackRule .active back held timing expired = if held = .occupied ∧ timing ≠ 0 ∧ expired = false
      then ⟨.occupied, none, .empty, .start⟩ else ⟨.clear, none, .empty, .cancel⟩ := by
  obtain rfl | rfl := h <;> simp [trackRule]

variable {normal reverse : LevelView} {lock : Option LevelView}

theorem pointsRule_of_both : pointsRule .active .active lock held expired =
    ⟨.contradiction, none, .empty, .cancel⟩ := by
  simp [pointsRule]

theorem pointsRule_of_normal (h : reverse ≠ .active) : pointsRule .active reverse lock held expired
    = ⟨.normal, none, lockAttrs lock (reverse = .chatter), .cancel⟩ := by
  simp [pointsRule, h]

theorem pointsRule_of_reverse (h : normal ≠ .active) : pointsRule normal .active lock held expired
    = ⟨.reverse, none, lockAttrs lock (normal = .chatter), .cancel⟩ := by
  simp [pointsRule, h]

theorem pointsRule_of_neither (hn : normal ≠ .active) (hr : reverse ≠ .active) :
    pointsRule normal reverse lock held expired =
      if held = .lost then ⟨.lost, none, .ofChatter (normal = .chatter || reverse = .chatter), .cancel⟩
      else if held = .moving then
        if expired then ⟨.lost, none, .ofChatter (normal = .chatter || reverse = .chatter), .cancel⟩
        else ⟨.moving, none, .ofChatter (normal = .chatter || reverse = .chatter), .keep⟩
      else ⟨.moving, none, .ofChatter (normal = .chatter || reverse = .chatter), .start⟩ := by
  simp [pointsRule, hn, hr]

theorem lockAttrs_eq (lock : Option LevelView) (chatter : Bool) : lockAttrs lock chatter
    = { Attrs.ofChatter chatter with
        locked := lock = some .active, free := lock ≠ none ∧ lock ≠ some .active } := by
  cases lock with
  | none => simp [lockAttrs, Attrs.ofChatter, Attrs.empty]
  | some v => simp [lockAttrs]

theorem signalRule_of_one (n : Nat) (v : LampView) (old : Presented) :
    signalRule [(n, v)] old timing expired = ⟨.showing, some n, showingAttrs v, .cancel⟩ := rfl

theorem signalRule_of_other {lit : List (Nat × LampView)} (h : lit.length ≠ 1) (old : Presented) :
    signalRule lit old timing expired =
      if old.code = .showing ∧ timing ≠ 0 ∧ expired = false then ⟨.showing, old.aspect, heldAttrs old.attrs, .start⟩
      else ⟨if lit = [] then .dark else .contradiction, none, .empty, .cancel⟩ := by
  unfold signalRule
  split
  · exact absurd rfl h
  · cases lit <;> rfl

variable {front back : LevelView}

theorem relayRule_of_front (h : back ≠ .active) : relayRule .active back held expired
    = ⟨.up, none, .ofChatter (back = .chatter), .cancel⟩ := by
  simp [relayRule, h]

theorem relayRule_of_back (h : front ≠ .active) : relayRule front .active held expired
    = ⟨.down, none, .ofChatter (front = .chatter), .cancel⟩ := by
  simp [relayRule, h]

theorem relayRule_of_neither (hf : front ≠ .active) (hb : back ≠ .active) : relayRule front back held expired =
    if (held = .up ∨ held = .down) ∧ expired = false
      then ⟨held, none, .ofChatter (front = .chatter || back = .chatter), .start⟩
      else ⟨.fault, none, .ofChatter (front = .chatter || back = .chatter), .cancel⟩ := by
  simp [relayRule, hf, hb]

end Rules

/-! ### The views of the roles -/

/-- With no UNKNOWN among the references the rule of the kind is applied (R75). -/
theorem State.rule_of_known {s : State} {d : Definition} (known : ∀ r ∈ d.refs, s.accepted r.contact ≠ none)
    (old : Presented) (expired : Bool) : s.rule d old expired =
      match d.kind with
      | .track => trackRule (s.required d .clear) (s.roleLevel d .back) old.code d.timing expired
      | .points =>
        pointsRule (s.required d .normalDetect) (s.required d .reverseDetect) (s.roleLevel d .lock) old.code expired
      | .signal => signalRule (s.litAspects d) old d.timing expired
      | .indication => indicationRule (((d.refOf .lamp).map s.lampOf).getD .unknown)
      | .relay => relayRule (s.required d .front) (s.required d .back) old.code expired := by
  have none : ¬ s.someUnknown d = true := by
    intro h
    obtain ⟨r, mem, unknown⟩ := List.any_eq_true.mp h
    exact known r mem (Option.isNone_iff_eq_none.mp unknown)
  exact if_neg none

/-- A role's view is that of the reference in that role, if there is one. -/
theorem State.roleLevel_eq {s : State} {d : Definition} {optional : Role → Option LevelView}
    (there : ∀ r ∈ d.refs, optional r.role = some (s.levelOf r))
    (absent : ∀ role, (∀ r ∈ d.refs, r.role ≠ role) → optional role = none) (role : Role) :
    s.roleLevel d role = optional role := by
  unfold State.roleLevel Definition.refOf
  cases found : d.refs.find? (fun r => r.role = role) with
  | none =>
    refine (absent role fun r mem e => ?_).symm
    exact absurd e (by simpa using List.find?_eq_none.mp found r mem)
  | some r =>
    have e : r.role = role := by simpa using List.find?_some found
    rw [← e, there r (List.mem_of_find?_eq_some found)]
    rfl

theorem Definition.refOf_of_mem {d : Definition} (once : (d.refs.map (·.role)).Nodup) {a : Reference}
    (mem : a ∈ d.refs) :
    d.refOf a.role = some a := by
  unfold Definition.refOf
  cases found : d.refs.find? (fun r => r.role = a.role) with
  | none =>
    have missed := List.find?_eq_none.mp found a mem
    simp at missed
  | some r =>
    have e : r.role = a.role := by simpa using List.find?_some found
    rw [List.inj_on_of_nodup_map once (List.mem_of_find?_eq_some found) mem e]

theorem LampView.isLit_iff (v : LampView) : v.isLit = true ↔ (v = .lit ∨ v = .flashing ∨ v = .irregular) := by
  cases v <;> simp [LampView.isLit]

/-- Settles O31: UNKNOWN before all, each kind from the views of its roles, and the rules line by line. -/
theorem kindsAreResolved : Obligations.KindsAreResolved := by
  refine ⟨?unknown, ?views, ?track, ?points, ?one, ?other, ?indication, ?relay⟩
  case unknown =>
    intro s d old expired r mem none
    have unknown : s.someUnknown d = true := List.any_eq_true.mpr ⟨r, mem, by simp [none]⟩
    rw [State.rule_of_unknown unknown]
    refine ⟨rfl, fun n cause stamp o => ⟨by rw [resolveRecord_timer]; rfl, ?_⟩⟩
    unfold resolveRecord
    dsimp only
    split
    · rfl
    · exact nextLatch_unknown _ _ _
  case views =>
    intro s d old expired level lamp hlevel hlamp once known optional there absent
    obtain rfl : level = s.levelOf := funext hlevel
    obtain rfl : lamp = s.lampOf := funext hlamp
    have roles := State.roleLevel_eq there absent
    have required : ∀ a ∈ d.refs, ∀ role, a.role = role → s.required d role = s.levelOf a := by
      rintro a mem role rfl
      rw [State.required, roles, there a mem]
      rfl
    rw [State.rule_of_known known]
    refine ⟨fun kind a ha role => ?_, fun kind a ha b hb normal reverse => ?_, fun kind lit hlit => ?_,
      fun kind a ha role => ?_, fun kind a ha b hb front back => ?_⟩ <;> rw [kind] <;> dsimp only
    · rw [required a ha _ role, roles]
    · rw [required a ha _ normal, required b hb _ reverse, roles]
    · have same : s.litAspects d = lit := by
        rw [hlit, State.litAspects]
        refine List.filterMap_congr fun r _ => ?_
        simp only [← LampView.isLit_iff]
        cases r.role <;> simp only [Role.aspect, ite_self]
      rw [same]
    · rw [← role, Definition.refOf_of_mem once ha]
      rfl
    · rw [required a ha _ front, required b hb _ back]
  case track =>
    intro clear back held timing expired known known'
    refine ⟨trackRule_of_chatter, ?_, ?_, ?_⟩
    · rintro rfl rfl
      exact trackRule_of_both
    · rintro rfl quiet
      exact trackRule_of_inactive quiet
    · rintro rfl plain
      rw [trackRule_of_clear plain]
      refine ⟨fun occupied timed running => if_pos ⟨occupied, timed, running⟩, fun other => if_neg ?_⟩
      rintro ⟨occupied, timed, running⟩
      obtain h | h | h := other
      · exact h occupied
      · exact timed h
      · exact nomatch running.symm.trans h
  case points =>
    rintro normal reverse lock held expired a rfl
    refine ⟨?_, ?_, fun hn hr => ?_⟩
    · rintro rfl rfl
      exact pointsRule_of_both
    · rintro b rfl
      refine ⟨?_, ?_⟩
      · rintro rfl hr
        rw [pointsRule_of_normal hr, lockAttrs_eq]
        simp [Attrs.ofChatter]
      · rintro hn rfl
        rw [pointsRule_of_reverse hn, lockAttrs_eq]
        simp [Attrs.ofChatter]
    · rw [pointsRule_of_neither hn hr]
      refine ⟨?_, ?_, ?_, fun lost moving => ?_⟩
      · rintro rfl
        rfl
      · rintro rfl rfl
        rfl
      · rintro rfl rfl
        rfl
      · rw [if_neg lost, if_neg moving]
        rfl
  case one => exact fun n v old timing expired => signalRule_of_one n v old
  case other =>
    intro lit old timing expired other
    rw [signalRule_of_other other]
    refine ⟨fun showing timed running => if_pos ⟨showing, timed, running⟩, fun h => if_neg ?_⟩
    rintro ⟨showing, timed, running⟩
    obtain h | h | h := h
    · exact h showing
    · exact timed h
    · exact nomatch running.symm.trans h
  case indication => exact ⟨rfl, rfl, rfl, rfl⟩
  case relay =>
    rintro front back held expired a rfl
    refine ⟨?_, ?_, ?_, fun hf hb => ?_⟩
    · rintro rfl rfl
      simp [relayRule, Attrs.ofChatter]
    · rintro rfl hb
      rw [relayRule_of_front hb]
      simp [Attrs.ofChatter]
    · rintro hf rfl
      rw [relayRule_of_back hf]
      simp [Attrs.ofChatter]
    · rw [relayRule_of_neither hf hb]
      refine ⟨fun stands running => if_pos ⟨stands, running⟩, fun h => if_neg ?_⟩
      rintro ⟨stands, running⟩
      obtain ⟨up, down⟩ | h := h
      · exact stands.elim up down
      · exact nomatch running.symm.trans h

end Sys2Proof.Machine
end

section
/-! PROOFS. The change journal (chapter 6): what is pending for a lane and first in it, what a refill appends and
where it stops, and the statements on admission, refill, SYNC and FETCH (R98 to R112). -/

namespace Sys2Proof.Machine

/-! ### Lists by place -/

theorem any_eq_true_iff_getElem? {α : Type} {l : List α} {p : α → Bool} :
    l.any p = true ↔ ∃ (n : Nat) (x : α), l[n]? = some x ∧ p x = true := by
  rw [List.any_eq_true]
  constructor
  · rintro ⟨x, mem, hx⟩
    obtain ⟨n, e⟩ := List.mem_iff_getElem?.mp mem
    exact ⟨n, x, e, hx⟩
  · rintro ⟨n, x, e, hx⟩
    exact ⟨x, List.mem_iff_getElem?.mpr ⟨n, e⟩, hx⟩

/-- The first place of a list where something holds. -/
theorem findIdx?_eq_some_iff_getElem? {α : Type} {l : List α} {p : α → Bool} {n : Nat} : l.findIdx? p = some n ↔
    (∃ x, l[n]? = some x ∧ p x = true) ∧ ∀ (m : Nat) (x : α), m < n → l[m]? = some x → p x = false := by
  rw [List.findIdx?_eq_some_iff_getElem]
  constructor
  · rintro ⟨place, here, before⟩
    refine ⟨⟨l[n], List.getElem?_eq_getElem place, here⟩, fun m x lt e => ?_⟩
    obtain ⟨place', rfl⟩ := List.getElem?_eq_some_iff.mp e
    simpa using before m lt
  · rintro ⟨⟨x, e, here⟩, before⟩
    obtain ⟨place, rfl⟩ := List.getElem?_eq_some_iff.mp e
    refine ⟨place, here, fun m lt => ?_⟩
    simpa using before m _ lt (List.getElem?_eq_getElem (Nat.lt_trans lt place))

theorem findIdx?_eq_none_iff_getElem? {α : Type} {l : List α} {p : α → Bool} :
    l.findIdx? p = none ↔ ∀ (n : Nat) (x : α), l[n]? = some x → p x = false := by
  rw [List.findIdx?_eq_none_iff]
  constructor
  · exact fun h n x e => h x (List.mem_iff_getElem?.mpr ⟨n, e⟩)
  · intro h x mem
    obtain ⟨n, e⟩ := List.mem_iff_getElem?.mp mem
    exact h n x e

theorem State.slots_getElem? {s : State} {k : Nat} {x : Slot} (active : x ≠ .free none) :
    s.press.slots[k]? = some x ↔ s.slot k = x := by
  unfold State.slot
  rw [List.getD_eq_getElem?_getD]
  cases e : s.press.slots[k]? with
  | none => simpa using Ne.symm active
  | some y => simp

theorem State.objects_getElem? {s : State} {n : Nat} {o : ObjectRecord} (whole : o ≠ .undefined) :
    s.table.objects[n]? = some o ↔ s.object n = o := by
  unfold State.object
  rw [List.getD_eq_getElem?_getD]
  cases e : s.table.objects[n]? with
  | none => simpa using Ne.symm whole
  | some y => simp

/-! ### What is pending -/

theorem Slot.endedFor_iff (l : Lane) (x : Slot) : x.endedFor l = true ↔
    ∃ tag rep, x = .ended tag rep ∧ rep.outcome.lane = l := by
  cases x <;> simp [Slot.endedFor]

theorem PressOutcome.lane_eq (o : PressOutcome) : o.lane = if o = .done ∨ o = .aborted then .routine else .urgent := by
  cases o <;> rfl

/-- The ENDED slots of a lane (R100). -/
theorem State.endedSlot_iff {s : State} {l : Lane} {k : Nat} : (∃ x, s.press.slots[k]? = some x ∧ x.endedFor l = true) ↔
    ∃ tag rep, s.slot k = .ended tag rep ∧ rep.outcome.lane = l := by
  constructor
  · rintro ⟨x, e, ended⟩
    obtain ⟨tag, rep, rfl, lane⟩ := (x.endedFor_iff l).mp ended
    exact ⟨tag, rep, (State.slots_getElem? (by simp)).mp e, lane⟩
  · rintro ⟨tag, rep, e, lane⟩
    exact ⟨_, (State.slots_getElem? (by simp)).mpr e, (Slot.endedFor_iff l _).mpr ⟨tag, rep, rfl, lane⟩⟩

/-- The dirty objects of a lane (R100). -/
theorem State.markedObject_iff {s : State} {l : Lane} {n : Nat} :
    (∃ o, s.table.objects[n]? = some o ∧ o.markedFor l = true) ↔ (s.object n).dirty = some l := by
  constructor
  · rintro ⟨o, e, marked⟩
    have dirty : o.dirty = some l := by simpa [ObjectRecord.markedFor] using marked
    rwa [(State.objects_getElem? (by rintro rfl; exact nomatch dirty)).mp e]
  · intro dirty
    exact ⟨s.object n, (State.objects_getElem? (by intro e; rw [e] at dirty; exact nomatch dirty)).mpr rfl,
      by simpa [ObjectRecord.markedFor] using dirty⟩

/-- A held item of a list of places. -/
theorem heldItem_iff {α : Type} {held : List (Option α)} {n : Nat} :
    (∃ x, held[n]? = some x ∧ x.isSome = true) ↔ ∃ i, held[n]? = some (some i) := by
  constructor
  · rintro ⟨x, e, some⟩
    obtain ⟨i, rfl⟩ := Option.isSome_iff_exists.mp some
    exact ⟨i, e⟩
  · rintro ⟨i, e⟩
    exact ⟨some i, e, rfl⟩

section Pending

variable (s : State) (l : Lane)

/-- A MODULE item is held (R100). -/
def State.holdsModule : Prop := ∃ (n : Nat) (i : ModuleItem), s.journal.modulePending[n]? = some (some i)

/-- An OUTPUT item is held (R100). -/
def State.holdsOutput : Prop := ∃ (n : Nat) (i : OutputItem), s.journal.outputPending[n]? = some (some i)

/-- A slot is ENDED with an outcome of the lane (R100). -/
def State.holdsEnd : Prop := ∃ k tag rep, s.slot k = .ended tag rep ∧ rep.outcome.lane = l

/-- An object is dirty with the lane's mark (R100). -/
def State.holdsMark : Prop := ∃ n, (s.object n).dirty = some l

theorem State.holdsModule_iff : s.journal.modulePending.any (·.isSome) = true ↔ s.holdsModule := by
  rw [any_eq_true_iff_getElem?]
  exact exists_congr fun n => heldItem_iff

theorem State.holdsOutput_iff : s.journal.outputPending.any (·.isSome) = true ↔ s.holdsOutput := by
  rw [any_eq_true_iff_getElem?]
  exact exists_congr fun n => heldItem_iff

theorem State.holdsEnd_iff : s.press.slots.any (·.endedFor l) = true ↔ s.holdsEnd l := by
  rw [any_eq_true_iff_getElem?]
  exact exists_congr fun k => State.endedSlot_iff

theorem State.holdsMark_iff : s.table.objects.any (·.markedFor l) = true ↔ s.holdsMark l := by
  rw [any_eq_true_iff_getElem?]
  exact exists_congr fun n => State.markedObject_iff

theorem State.pendingFor_iff : s.pendingFor l = true ↔
    (l = .urgent ∧ (s.holdsModule ∨ s.holdsOutput)) ∨ s.holdsEnd l ∨ s.holdsMark l := by
  cases l with
  | urgent =>
    simp only [State.pendingFor, Bool.or_eq_true, State.holdsModule_iff, State.holdsOutput_iff, State.holdsEnd_iff,
      State.holdsMark_iff, true_and, or_assoc]
  | routine =>
    simp only [State.pendingFor, Bool.or_eq_true, State.holdsEnd_iff, State.holdsMark_iff, reduceCtorEq, false_and,
      false_or]

end Pending

theorem State.admits_iff (s : State) (l : Lane) : s.admits l = true ↔
    (s.lane l).length < l.places ∧ s.pendingFor l = false := by
  simp [State.admits, State.hasPlace]

/-- Settles O35: what is pending, and the admission of each kind of item. -/
theorem itemsAreAdmitted : Obligations.ItemsAreAdmitted := by
  intro s
  refine ⟨s.admits_iff, fun l => ?pending, ⟨rfl, rfl⟩,
    fun i => ⟨fun yes => if_pos yes, fun no => if_neg (by simp [no])⟩,
    fun i => ⟨fun yes => if_pos yes, fun no => if_neg (by simp [no])⟩, fun k tag rep l hl => ?pressEnd,
    fun c => ?change⟩
  case pending =>
    rw [State.pendingFor_iff]
    refine or_congr .rfl (or_congr ?_ .rfl)
    simp only [State.holdsEnd, PressOutcome.lane_eq, eq_comm (b := l)]
  case pressEnd =>
    rw [← PressOutcome.lane_eq] at hl
    subst hl
    exact ⟨fun yes => if_pos yes, fun no => if_neg (by simp [no])⟩
  case change =>
    have running : s.running = true ↔ s.scanner.part = .running := by simp [State.running]
    refine ⟨fun no => ?_, fun yes clean admitted => ?_, fun yes clean full => ?_, fun yes dirty urgent => ?_,
      fun yes dirty => ?_⟩ <;> unfold State.handChange
    · rw [if_neg (fun c => no (running.mp c))]
    · rw [if_pos (running.mpr yes)]
      simp only [clean, admitted, if_true]
    · rw [if_pos (running.mpr yes)]
      simp only [clean, full, Bool.false_eq_true, if_false]
    · rw [if_pos (running.mpr yes)]
      simp only [dirty, urgent]
    · rw [if_pos (running.mpr yes)]
      obtain dirty | ⟨dirty, routine⟩ := dirty
      · simp only [dirty]
      · simp only [dirty, routine]

/-! ### The first pending item -/

section First

variable {s : State} {l : Lane}

theorem State.firstMarked_of_mark (running : s.running = true) (mark : s.holdsMark l) :
    ∃ n, s.firstMarked l = some (.object n) ∧ (s.object n).dirty = some l ∧
      ∀ m, m < n → (s.object m).dirty ≠ some l := by
  cases found : s.table.objects.findIdx? (·.markedFor l) with
  | none =>
    obtain ⟨n, dirty⟩ := mark
    obtain ⟨o, e, marked⟩ := State.markedObject_iff.mpr dirty
    exact absurd marked (by simp [findIdx?_eq_none_iff_getElem?.mp found n o e])
  | some n =>
    obtain ⟨here, before⟩ := findIdx?_eq_some_iff_getElem?.mp found
    refine ⟨n, by simp [State.firstMarked, running, found], State.markedObject_iff.mp here, fun m lt dirty => ?_⟩
    obtain ⟨o, e, marked⟩ := State.markedObject_iff.mpr dirty
    exact absurd marked (by simp [before m o lt e])

theorem State.firstMarked_eq_none_iff : s.firstMarked l = none ↔ (s.running = true → ¬ s.holdsMark l) := by
  constructor
  · intro none running mark
    obtain ⟨n, some, -⟩ := State.firstMarked_of_mark running mark
    exact nomatch none.symm.trans some
  · intro h
    unfold State.firstMarked
    split
    next running =>
      rw [Option.map_eq_none_iff, findIdx?_eq_none_iff_getElem?]
      intro n o e
      by_contra marked
      exact h running ⟨n, State.markedObject_iff.mp ⟨o, e, by simpa using marked⟩⟩
    · rfl

/-- The first ENDED slot of a lane, if there is one, and otherwise the first dirty object (R106). -/
def State.firstEndOrMark (s : State) (l : Lane) : Option PendingItem :=
  match s.press.slots.findIdx? (·.endedFor l) with
  | some k => some (.pressEnd k)
  | none => s.firstMarked l

theorem State.firstPending_routine (s : State) : s.firstPending .routine = s.firstEndOrMark .routine := rfl

theorem State.firstEndOrMark_of_end (ended : s.holdsEnd l) : ∃ k tag rep, s.firstEndOrMark l = some (.pressEnd k) ∧
    s.slot k = .ended tag rep ∧ rep.outcome.lane = l ∧
      ∀ j tag' rep', j < k → s.slot j = .ended tag' rep' → rep'.outcome.lane ≠ l := by
  unfold State.firstEndOrMark
  cases found : s.press.slots.findIdx? (·.endedFor l) with
  | none =>
    obtain ⟨k, tag, rep, slot, lane⟩ := ended
    obtain ⟨x, e, ended⟩ := State.endedSlot_iff.mpr ⟨tag, rep, slot, lane⟩
    exact absurd ended (by simp [findIdx?_eq_none_iff_getElem?.mp found k x e])
  | some k =>
    obtain ⟨here, before⟩ := findIdx?_eq_some_iff_getElem?.mp found
    obtain ⟨tag, rep, slot, lane⟩ := State.endedSlot_iff.mp here
    refine ⟨k, tag, rep, rfl, slot, lane, fun j tag' rep' lt slot' lane' => ?_⟩
    obtain ⟨x, e, ended⟩ := State.endedSlot_iff.mpr ⟨tag', rep', slot', lane'⟩
    exact absurd ended (by simp [before j x lt e])

theorem State.firstEndOrMark_of_no_end (none : ¬ s.holdsEnd l) : s.firstEndOrMark l = s.firstMarked l := by
  unfold State.firstEndOrMark
  cases found : s.press.slots.findIdx? (·.endedFor l) with
  | none => rfl
  | some k =>
    obtain ⟨tag, rep, slot, lane⟩ := State.endedSlot_iff.mp (findIdx?_eq_some_iff_getElem?.mp found).1
    exact absurd ⟨k, tag, rep, slot, lane⟩ none

theorem State.firstPending_of_module (held : s.holdsModule) :
    ∃ (n : Nat) (i : ModuleItem), s.firstPending .urgent = some (.module n) ∧
      s.journal.modulePending[n]? = some (some i) ∧
      ∀ (m : Nat) (j : ModuleItem), m < n → s.journal.modulePending[m]? ≠ some (some j) := by
  cases found : s.journal.modulePending.findIdx? (·.isSome) with
  | none =>
    obtain ⟨n, i, e⟩ := held
    exact absurd (findIdx?_eq_none_iff_getElem?.mp found n _ e) (by simp)
  | some n =>
    obtain ⟨here, before⟩ := findIdx?_eq_some_iff_getElem?.mp found
    obtain ⟨i, e⟩ := heldItem_iff.mp here
    exact ⟨n, i, by simp [State.firstPending, found], e, fun m j lt e' => absurd (before m _ lt e') (by simp)⟩

theorem findIdx?_held_none {α : Type} {held : List (Option α)}
    (none : ¬ ∃ (n : Nat) (i : α), held[n]? = some (some i)) :
    held.findIdx? (·.isSome) = Option.none := by
  rw [findIdx?_eq_none_iff_getElem?]
  intro n x e
  cases x with
  | none => rfl
  | some i => exact absurd ⟨n, i, e⟩ none

theorem State.firstPending_of_output (empty : ¬ s.holdsModule) (held : s.holdsOutput) :
    ∃ (n : Nat) (i : OutputItem), s.firstPending .urgent = some (.output n) ∧
      s.journal.outputPending[n]? = some (some i) ∧
      ∀ (m : Nat) (j : OutputItem), m < n → s.journal.outputPending[m]? ≠ some (some j) := by
  cases found : s.journal.outputPending.findIdx? (·.isSome) with
  | none =>
    obtain ⟨n, i, e⟩ := held
    exact absurd (findIdx?_eq_none_iff_getElem?.mp found n _ e) (by simp)
  | some n =>
    obtain ⟨here, before⟩ := findIdx?_eq_some_iff_getElem?.mp found
    obtain ⟨i, e⟩ := heldItem_iff.mp here
    exact ⟨n, i, by simp [State.firstPending, findIdx?_held_none empty, found], e,
      fun m j lt e' => absurd (before m _ lt e') (by simp)⟩

theorem State.firstPending_of_no_item (modules : l = .urgent → ¬ s.holdsModule)
    (outputs : l = .urgent → ¬ s.holdsOutput) :
    s.firstPending l = s.firstEndOrMark l := by
  cases l with
  | urgent =>
    simp only [State.firstPending, findIdx?_held_none (modules rfl), findIdx?_held_none (outputs rfl)]
    rfl
  | routine => rfl

/-- Nothing is first exactly where nothing may be appended (R106). -/
theorem State.firstPending_eq_none_iff : s.firstPending l = none ↔
    (l = .urgent → ¬ s.holdsModule ∧ ¬ s.holdsOutput) ∧ ¬ s.holdsEnd l ∧ (s.running = true → ¬ s.holdsMark l) := by
  constructor
  · intro none
    have modules : l = .urgent → ¬ s.holdsModule := by
      rintro rfl held
      obtain ⟨n, i, some, -⟩ := State.firstPending_of_module held
      exact nomatch none.symm.trans some
    have outputs : l = .urgent → ¬ s.holdsOutput := by
      intro urgent held
      obtain ⟨n, i, some, -⟩ := State.firstPending_of_output (modules urgent) held
      rw [urgent] at none
      exact nomatch none.symm.trans some
    rw [State.firstPending_of_no_item modules outputs] at none
    have ends : ¬ s.holdsEnd l := by
      intro ended
      obtain ⟨k, tag, rep, some, -⟩ := State.firstEndOrMark_of_end ended
      exact nomatch none.symm.trans some
    rw [State.firstEndOrMark_of_no_end ends] at none
    exact ⟨fun urgent => ⟨modules urgent, outputs urgent⟩, ends, State.firstMarked_eq_none_iff.mp none⟩
  · rintro ⟨items, ends, marks⟩
    rw [State.firstPending_of_no_item (fun u => (items u).1) (fun u => (items u).2),
      State.firstEndOrMark_of_no_end ends]
    exact State.firstMarked_eq_none_iff.mpr marks

/-- What is first is there, and for the ROUTINE lane it is an ENDED slot or a dirty object (R106). -/
theorem State.firstPending_some {p : PendingItem} (first : s.firstPending l = some p) :
    (∃ (n : Nat) (i : ModuleItem), p = .module n ∧ l = .urgent ∧ s.journal.modulePending[n]? = some (some i)) ∨
      (∃ (n : Nat) (i : OutputItem), p = .output n ∧ l = .urgent ∧ s.journal.outputPending[n]? = some (some i)) ∨
      (∃ k tag rep, p = .pressEnd k ∧ s.slot k = .ended tag rep ∧ rep.outcome.lane = l) ∨ ∃ n, p = .object n := by
  by_cases modules : l = .urgent ∧ s.holdsModule
  · obtain ⟨rfl, held⟩ := modules
    obtain ⟨n, i, some, item, -⟩ := State.firstPending_of_module held
    exact .inl ⟨n, i, Option.some.inj (first.symm.trans some), rfl, item⟩
  · have modules : l = .urgent → ¬ s.holdsModule := fun u h => modules ⟨u, h⟩
    by_cases outputs : l = .urgent ∧ s.holdsOutput
    · obtain ⟨rfl, held⟩ := outputs
      obtain ⟨n, i, some, item, -⟩ := State.firstPending_of_output (modules rfl) held
      exact .inr (.inl ⟨n, i, Option.some.inj (first.symm.trans some), rfl, item⟩)
    · have outputs : l = .urgent → ¬ s.holdsOutput := fun u h => outputs ⟨u, h⟩
      rw [State.firstPending_of_no_item modules outputs] at first
      by_cases ends : s.holdsEnd l
      · obtain ⟨k, tag, rep, some, slot, lane, -⟩ := State.firstEndOrMark_of_end ends
        exact .inr (.inr (.inl ⟨k, tag, rep, Option.some.inj (first.symm.trans some), slot, lane⟩))
      · rw [State.firstEndOrMark_of_no_end ends] at first
        unfold State.firstMarked at first
        split at first
        · obtain ⟨n, -, e⟩ := Option.map_eq_some_iff.mp first
          exact .inr (.inr (.inr ⟨n, e.symm⟩))
        · exact nomatch first

end First

end Sys2Proof.Machine
end

section
/-! PROOFS. A refill appends the first pending item until its lane is full or nothing is left (R106), and the
statements on refill, SYNC and FETCH (R106, R110, R112, R166). -/

namespace Sys2Proof.Machine

/-! ### One item appended -/

section Append

variable {s : State} {n : Nat} (l : Lane)

theorem State.appendPending_module {i : ModuleItem} (held : s.journal.modulePending[n]? = some (some i)) :
    s.appendPending l (.module n) = (s.append l (.module i)).setModulePending n none := by
  simp [State.appendPending, held]

theorem State.appendPending_output {i : OutputItem} (held : s.journal.outputPending[n]? = some (some i)) :
    s.appendPending l (.output n) = (s.append l (.output i)).setOutputPending n none := by
  simp [State.appendPending, held]

theorem State.appendPending_pressEnd {tag : Nat} {rep : EndReport} (ended : s.slot n = .ended tag rep) :
    s.appendPending l (.pressEnd n)
      = (s.append l (.pressEnd n tag rep.outcome rep.failing rep.stamp)).setSlot n (.free (some rep)) := by
  simp [State.appendPending, ended]

theorem State.appendPending_object {p : Presented} (presented : (s.object n).presented = some p) :
    s.appendPending l (.object n) = (s.append l (.refresh n p (s.object n).lastStamp)).setDirty n none := by
  simp [State.appendPending, State.refreshRecord, presented]

end Append

/-- The first pending item goes in as one record at the tail (R106). -/
theorem State.appendPending_first {s : State} {l : Lane} {p : PendingItem} (first : s.firstPending l = some p) :
    ∃ r, (s.appendPending l p).lane l = s.lane l ++ [r] := by
  obtain ⟨n, i, rfl, -, held⟩ | ⟨n, i, rfl, -, held⟩ | ⟨k, tag, rep, rfl, ended, -⟩ | ⟨n, rfl⟩ :=
    State.firstPending_some first
  · exact ⟨_, by rw [State.appendPending_module _ held, State.lane_setModulePending, State.lane_append_self]⟩
  · exact ⟨_, by rw [State.appendPending_output _ held, State.lane_setOutputPending, State.lane_append_self]⟩
  · exact ⟨_, by rw [State.appendPending_pressEnd _ ended, State.lane_setSlot, State.lane_append_self]⟩
  · exact ⟨_, by rw [State.appendPending, State.lane_setDirty, State.lane_append_self]⟩

/-! ### The refill, item by item -/

section Refill

variable {s : State} {l : Lane}

theorem State.hasPlace_iff_lt : s.hasPlace l = true ↔ (s.lane l).length < l.places := by
  simp [State.hasPlace]

theorem State.refill_of_first {p : PendingItem} (place : s.hasPlace l = true) (first : s.firstPending l = some p) :
    s.refill l = (s.appendPending l p).refill l := by
  obtain ⟨r, appended⟩ := State.appendPending_first first
  have room := State.hasPlace_iff_lt.mp place
  have left : l.places - (s.lane l).length = l.places - ((s.appendPending l p).lane l).length + 1 := by
    rw [appended, List.length_append, List.length_singleton]
    omega
  unfold State.refill
  rw [left]
  simp only [State.refillUpTo, first]

theorem State.refill_of_full (full : s.hasPlace l = false) : s.refill l = s := by
  have : ¬ (s.lane l).length < l.places := by
    rw [← State.hasPlace_iff_lt, full]
    simp
  unfold State.refill
  rw [Nat.sub_eq_zero_of_le (Nat.le_of_not_lt this)]
  rfl

theorem State.refill_of_none (none : s.firstPending l = none) : s.refill l = s := by
  unfold State.refill
  cases l.places - (s.lane l).length with
  | zero => rfl
  | succ n => simp only [State.refillUpTo, none]

/-- A refill ends with the lane full or nothing left (R106). -/
theorem State.refill_stops (s : State) (l : Lane) :
    (s.refill l).hasPlace l = false ∨ (s.refill l).firstPending l = none := by
  obtain ⟨n, hn⟩ : ∃ n, n = l.places - (s.lane l).length := ⟨_, rfl⟩
  induction n generalizing s with
  | zero =>
    have full : s.hasPlace l = false := by
      rw [← Bool.not_eq_true, State.hasPlace_iff_lt]
      omega
    rw [State.refill_of_full full]
    exact .inl full
  | succ n ih =>
    cases first : s.firstPending l with
    | none =>
      rw [State.refill_of_none first]
      exact .inr first
    | some p =>
      rw [State.refill_of_first (State.hasPlace_iff_lt.mpr (by omega)) first]
      obtain ⟨r, appended⟩ := State.appendPending_first first
      refine ih _ ?_
      rw [appended, List.length_append, List.length_singleton]
      omega

end Refill

theorem flag_eq_false {b : Bool} {p : Prop} (h : b = true ↔ p) : b = false ↔ ¬ p := by
  rw [← h, Bool.not_eq_true]

/-- Settles O36: what is first, what a refill does with it, and what an item becomes. -/
theorem refillTakesInOrder : Obligations.RefillTakesInOrder := by
  refine ⟨?order, fun s l => ⟨fun p => State.refill_of_first, fun h => h.elim State.refill_of_full State.refill_of_none,
    State.hasPlace_iff_lt, s.refill_stops l, s.refill_prefix l⟩, fun s l n => ⟨fun i => State.appendPending_module l,
    fun i => State.appendPending_output l, fun tag rep => State.appendPending_pressEnd l,
    fun p => State.appendPending_object l, fun r => ⟨s.lane_append_self l r, fun m => s.lane_append_ne r, ?_, ?_, rfl⟩⟩⟩
  case order =>
    intro s modules outputs ends marks hmodules houtputs hends hmarks
    refine ⟨fun yes => State.firstPending_of_module (hmodules.mp yes),
      fun no yes => State.firstPending_of_output ((flag_eq_false hmodules).mp no) (houtputs.mp yes), fun l empty => ?_⟩
    have first : s.firstPending l = s.firstEndOrMark l := State.firstPending_of_no_item
      (fun u => (flag_eq_false hmodules).mp (empty u).1) (fun u => (flag_eq_false houtputs).mp (empty u).2)
    have running : s.running = true ↔ s.scanner.part = .running := by simp [State.running]
    rw [first]
    refine ⟨fun yes => State.firstEndOrMark_of_end ((hends l).mp yes), fun no yes => ?_, fun no clean => ?_⟩
    · rw [State.firstEndOrMark_of_no_end ((flag_eq_false (hends l)).mp no)]
      obtain ⟨run, mark⟩ := (hmarks l).mp yes
      exact State.firstMarked_of_mark (running.mpr run) mark
    · rw [State.firstEndOrMark_of_no_end ((flag_eq_false (hends l)).mp no), State.firstMarked_eq_none_iff]
      exact fun run mark => (flag_eq_false (hmarks l)).mp clean ⟨running.mp run, mark⟩
  all_goals cases l <;> rfl

/-! ### SYNC (R110) -/

theorem ObjectRecord.sameState_marked (o : ObjectRecord) : o.sameState o.marked := by
  unfold ObjectRecord.marked
  split
  · split
    · rfl
    · split <;> rfl
  · rfl

theorem State.object_markedObjects (s : State) (n : Nat) :
    (s.setObjects (s.table.objects.map (·.marked))).object n = (s.object n).marked := by
  simp only [State.object, State.setObjects_table, List.getD_eq_getElem?_getD, List.getElem?_map]
  cases s.table.objects[n]? <;> rfl

theorem ObjectRecord.marked_of_resting {o : ObjectRecord} (h : o.service ≠ .inService) : o.marked = o := if_neg h

theorem ObjectRecord.marked_dirty {o : ObjectRecord} {p : Presented} (serving : o.service = .inService)
    (presented : o.presented = some p) :
    o.marked.dirty = if p.code.isAlarm = true then some .urgent else some (o.dirty.getD .routine) := by
  unfold ObjectRecord.marked
  rw [if_pos serving, presented, Option.getD_some]
  by_cases alarm : p.code.isAlarm = true
  · rw [if_pos alarm, if_pos alarm]
  · rw [if_neg alarm, if_neg alarm]
    cases dirty : o.dirty with
    | none => rfl
    | some m => exact dirty

/-- Marking and refilling leave everything but the marks and what the journal takes (R109). -/
theorem State.refillBoth_sameRelays (s : State) : SameRelays s s.refillBoth :=
  (s.refill_sameRelays .urgent).trans (State.refill_sameRelays _ .routine)

/-- Settles O37: BAD-STATE, or every object in service marked and both lanes refilled. -/
theorem syncMarksEveryObject : Obligations.SyncMarksEveryObject := by
  intro s tag serves
  refine ⟨fun other => ?_, fun running => ⟨s.setObjects (s.table.objects.map (·.marked)), ?_, rfl, fun n => ?_,
    fun n resting => ?_, fun n p serving presented => ?_, by simp, rfl⟩⟩
  · exact exec_unchanged serves rfl (by simp [serveRequest, serveSync, State.running, other, refusal])
  · have relays := (s.setObjects (s.table.objects.map (·.marked))).refillBoth_sameRelays
    refine exec_okWith serves rfl ?_ (fun n => ?_) (fun k w => relays.watching k w)
    · simp only [serveRequest, serveSync, State.running, running, decide_true, if_true]
      rfl
    · refine (relays.timers n).trans ?_
      rw [State.object_markedObjects]
      exact (s.object n).sameState_marked.timer
  · rw [State.object_markedObjects]
    exact (s.object n).sameState_marked
  · rw [State.object_markedObjects, ObjectRecord.marked_of_resting resting]
  · rw [State.object_markedObjects, ObjectRecord.marked_dirty serving presented]
    exact ⟨fun alarm => if_pos alarm, fun calm => if_neg (by simp [calm])⟩

/-! ### FETCH (R112, R166) -/

/-- Nothing is pending in `t` that is not pending in `s`. -/
structure PendsNoMore (s t : State) : Prop where
  modules : ∀ (n : Nat) (i : ModuleItem), t.journal.modulePending[n]? = some (some i) →
    s.journal.modulePending[n]? = some (some i)
  outputs : ∀ (n : Nat) (i : OutputItem), t.journal.outputPending[n]? = some (some i) →
    s.journal.outputPending[n]? = some (some i)
  ends : ∀ k tag rep, t.slot k = .ended tag rep → s.slot k = .ended tag rep
  marks : ∀ n l, (t.object n).dirty = some l → (s.object n).dirty = some l
  running : t.running = s.running

theorem PendsNoMore.refl (s : State) : PendsNoMore s s :=
  ⟨fun _ _ => id, fun _ _ => id, fun _ _ _ => id, fun _ _ => id, rfl⟩

theorem PendsNoMore.trans {a b c : State} (h : PendsNoMore a b) (k : PendsNoMore b c) : PendsNoMore a c :=
  ⟨fun n i e => h.modules n i (k.modules n i e), fun n i e => h.outputs n i (k.outputs n i e),
    fun n tag rep e => h.ends n tag rep (k.ends n tag rep e), fun n l e => h.marks n l (k.marks n l e),
    k.running.trans h.running⟩

theorem PendsNoMore.firstPending {s t : State} {m : Lane} (h : PendsNoMore s t) (first : s.firstPending m = none) :
    t.firstPending m = none := by
  rw [State.firstPending_eq_none_iff] at first ⊢
  obtain ⟨items, ends, marks⟩ := first
  refine ⟨fun u => ⟨fun ⟨n, i, e⟩ => (items u).1 ⟨n, i, h.modules n i e⟩,
    fun ⟨n, i, e⟩ => (items u).2 ⟨n, i, h.outputs n i e⟩⟩,
    fun ⟨k, tag, rep, e, lane⟩ => ends ⟨k, tag, rep, h.ends k tag rep e, lane⟩, fun run ⟨n, e⟩ => ?_⟩
  exact marks (h.running ▸ run) ⟨n, h.marks n m e⟩

theorem getElem?_set_none {α : Type} {held : List (Option α)} {n m : Nat} {i : α}
    (h : (held.set n none)[m]? = some (some i)) : held[m]? = some (some i) := by
  rw [List.getElem?_set] at h
  split at h
  · split at h
    · exact nomatch Option.some.inj h
    · exact nomatch h
  · exact h

@[simp] theorem State.append_modulePending (s : State) (l : Lane) (r : Record) :
    (s.append l r).journal.modulePending = s.journal.modulePending := by cases l <;> rfl

@[simp] theorem State.append_outputPending (s : State) (l : Lane) (r : Record) :
    (s.append l r).journal.outputPending = s.journal.outputPending := by cases l <;> rfl

/-- A record that enters a lane is not pending. -/
theorem State.append_pendsNoMore (s : State) (l : Lane) (r : Record) : PendsNoMore s (s.append l r) :=
  ⟨fun n i e => by rwa [s.append_modulePending] at e, fun n i e => by rwa [s.append_outputPending] at e,
    fun _ _ _ => id, fun _ _ => id, rfl⟩

/-- An item that is appended is pending no more, and nothing else comes to be (R106). -/
theorem State.appendPending_pendsNoMore (s : State) (l : Lane) (p : PendingItem) :
    PendsNoMore s (s.appendPending l p) := by
  unfold State.appendPending
  split
  · split
    · refine (s.append_pendsNoMore l _).trans ⟨fun n i e => ?_, fun _ _ => id, fun _ _ _ => id, fun _ _ => id, rfl⟩
      exact getElem?_set_none e
    · exact .refl s
  · split
    · refine (s.append_pendsNoMore l _).trans ⟨fun _ _ => id, fun n i e => ?_, fun _ _ _ => id, fun _ _ => id, rfl⟩
      exact getElem?_set_none e
    · exact .refl s
  · split
    · refine (s.append_pendsNoMore l _).trans ⟨fun _ _ => id, fun _ _ => id, fun j tag rep e => ?_, fun _ _ => id, rfl⟩
      rw [State.slot_setSlot] at e
      split at e
      · exact nomatch e
      · exact e
    · exact .refl s
  · refine (s.append_pendsNoMore l _).trans ⟨fun _ _ => id, fun _ _ => id, fun _ _ _ => id, fun m x e => ?_, rfl⟩
    unfold State.setDirty at e
    rw [State.object_setObject] at e
    split at e
    · exact nomatch e
    · exact e

/-- A refill of one lane appends nothing to the other, and brings nothing to be pending. -/
theorem State.refillUpTo_other (l : Lane) (n : Nat) (s : State) :
    PendsNoMore s (State.refillUpTo l n s) ∧ ∀ m, m ≠ l → (State.refillUpTo l n s).lane m = s.lane m := by
  induction n generalizing s with
  | zero => exact ⟨.refl s, fun _ _ => rfl⟩
  | succ n ih =>
    unfold State.refillUpTo
    split
    · exact ⟨.refl s, fun _ _ => rfl⟩
    next p _ =>
      obtain ⟨pends, lanes⟩ := ih (s.appendPending l p)
      refine ⟨(s.appendPending_pendsNoMore l p).trans pends, fun m ne => (lanes m ne).trans ?_⟩
      unfold State.appendPending
      split
      · split
        · rw [State.lane_setModulePending, State.lane_append_ne _ _ ne]
        · rfl
      · split
        · rw [State.lane_setOutputPending, State.lane_append_ne _ _ ne]
        · rfl
      · split
        · rw [State.lane_setSlot, State.lane_append_ne _ _ ne]
        · rfl
      · rw [State.lane_setDirty, State.lane_append_ne _ _ ne]

theorem State.refill_pendsNoMore (s : State) (l : Lane) : PendsNoMore s (s.refill l) := (State.refillUpTo_other l _ s).1

theorem State.lane_refill_ne {l m : Lane} (s : State) (h : m ≠ l) : (s.refill l).lane m = s.lane m :=
  (State.refillUpTo_other l _ s).2 m h

/-- A lane that is full, or for which nothing is left, stays so through the refill of the other. -/
theorem State.refill_keeps_stopped {s : State} {l m : Lane} (ne : m ≠ l)
    (stopped : s.hasPlace m = false ∨ s.firstPending m = none) :
    (s.refill l).hasPlace m = false ∨ (s.refill l).firstPending m = none := by
  refine stopped.imp (fun full => ?_) (s.refill_pendsNoMore l).firstPending
  unfold State.hasPlace at *
  rwa [s.lane_refill_ne ne]

theorem State.refill_link (s : State) (l : Lane) : (s.refill l).link = s.link := (link_keptByEnd s.link).refill rfl

theorem serveFetch_of_gt {s : State} {selection : Nat} (count : Nat) (h : 1 < selection) :
    serveFetch selection count s = (s, refusal .badParam) := by
  simp [serveFetch, flagOf_of_gt h]

theorem serveFetch_of_le {s : State} {selection : Nat} (count : Nat) (h : selection ≤ 1) {u r : List Record}
    (hu : u = (s.lane .urgent).take (min count 8))
    (hr : r = if selection = 1 then (s.lane .routine).take (min count 8 - u.length) else []) :
    serveFetch selection count s = (s.fetched u.length r.length, okWith (fetchOctets u r)) := by
  have urgent : s.fetchUrgent count = u := hu.symm
  have routine : s.fetchRoutine (decide (selection = 1)) count = r := by
    rw [State.fetchRoutine, urgent, hr]
    by_cases e : selection = 1 <;> simp [e, Config.recordsPerFrame]
  simp [serveFetch, flagOf_of_le h, urgent, routine]

/-- Taking a lane's oldest records and refilling it leaves the rest at its head (R98, R112). -/
theorem State.fetched_eq {s v w t : State} {u r : List Record}
    (hv : v = (s.dropRecords .urgent u.length).dropRecords .routine r.length)
    (hw : w = if u = [] then v else v.refill .urgent) (ht : t = if r = [] then w else w.refill .routine) :
    s.fetched u.length r.length = t := by
  rw [State.fetched, State.refillTaken, State.refillTaken, ← hv, ht, hw]
  simp only [List.length_eq_zero_iff]

theorem fetchOctets_eq (u r : List Record) : fetchOctets u r
    = oct u.length :: oct r.length :: (u.flatMap Record.octets ++ r.flatMap Record.octets) := by
  rw [fetchOctets, List.flatMap_append]

/-- Settles O38: the 13 octets of each record, and the two lanes as a FETCH leaves them. -/
theorem fetchTakesTheOldest : Obligations.FetchTakesTheOldest := by
  refine ⟨?octets, fun _ => rfl, fun _ => rfl, fun _ _ _ _ _ => rfl, ⟨rfl, rfl⟩,
    fun s l n => ⟨s.lane_dropRecords_self l n,
    fun m => s.lane_dropRecords_ne n, ?_, ?_, rfl⟩, fun s tag selection count serves => ⟨fun above => ?_, ?fetch⟩⟩
  case octets =>
    rintro n p shown c stamp rfl
    exact ⟨rfl, fun _ => rfl⟩
  case fetch =>
    intro le u r hu hr v w t hv hw ht
    have fetched := State.fetched_eq hv hw ht
    have dropped : SameRelays s v := by
      rw [hv]
      exact (s.dropRecords_sameRelays _ _).trans (State.dropRecords_sameRelays _ _ _)
    have urgent : SameRelays v w ∧ w.link = v.link ∧ v.lane .urgent <+: w.lane .urgent ∧
        w.lane .routine = v.lane .routine ∧ (u ≠ [] → w.hasPlace .urgent = false ∨ w.firstPending .urgent = none) := by
      rw [hw]
      split
      next none => exact ⟨.refl v, rfl, List.prefix_refl _, rfl, fun some => absurd none some⟩
      · exact ⟨v.refill_sameRelays _, v.refill_link _, v.refill_prefix _ _, v.lane_refill_ne (by simp),
          fun _ => v.refill_stops _⟩
    have routine : SameRelays w t ∧ t.link = w.link ∧ w.lane .routine <+: t.lane .routine ∧
        t.lane .urgent = w.lane .urgent ∧ (r ≠ [] → t.hasPlace .routine = false ∨ t.firstPending .routine = none) ∧
        (w.hasPlace .urgent = false ∨ w.firstPending .urgent = none →
          t.hasPlace .urgent = false ∨ t.firstPending .urgent = none) := by
      rw [ht]
      split
      next none => exact ⟨.refl w, rfl, List.prefix_refl _, rfl, fun some => absurd none some, id⟩
      · exact ⟨w.refill_sameRelays _, w.refill_link _, w.refill_prefix _ _, w.lane_refill_ne (by simp),
          fun _ => w.refill_stops _, State.refill_keeps_stopped (by simp)⟩
    obtain ⟨relaysW, linkW, prefixW, otherW, stopsW⟩ := urgent
    obtain ⟨relaysT, linkT, prefixT, otherT, stopsT, keepsT⟩ := routine
    have relays := (dropped.trans relaysW).trans relaysT
    refine ⟨?_, ?_, ?_, fun some => keepsT (stopsW some), stopsT, fun hu hr => ?_, linkT.trans (linkW.trans ?_), relays⟩
    · refine exec_okWith serves rfl ?_ relays.timers relays.watching
      rw [serveRequest, serveFetch_of_le count le hu hr, fetched, fetchOctets_eq]
    · have rest : v.lane .urgent = (s.lane .urgent).drop u.length := by
        rw [hv, State.lane_dropRecords_ne _ _ (by simp), State.lane_dropRecords_self]
      rwa [otherT, ← rest]
    · have rest : v.lane .routine = (s.lane .routine).drop r.length := by
        rw [hv, State.lane_dropRecords_self, State.lane_dropRecords_ne _ _ (by simp)]
      rwa [← rest, ← otherW]
    · rw [ht, if_pos hr, hw, if_pos hu, hv, hu, hr]
      rfl
    · rw [hv]
      rfl
  · cases l <;> rfl
  · cases l <;> rfl
  · exact exec_unchanged serves rfl (serveFetch_of_gt count above)

end Sys2Proof.Machine
end

section
/-! PROOFS. What a released permit and the end of an operation do to outputs, slots, permits and queue, whatever the
press unit holds (R127, R128, R138, R140). -/

namespace Sys2Proof.Machine

/-! ### What the operations of the press unit leave of the other blocks -/

/-- Journal and press unit leave the link alone. -/
theorem link_kept (l : Link) : Kept (fun s => s.link = l) where
  outputs _ _ := id
  slot _ _ _ _ := id
  watch _ _ _ _ := id
  dirty _ _ _ := id
  permit _ _ _ := id
  queue _ _ := id
  objects _ _ := id
  modulePending _ _ _ := id
  outputPending _ _ _ := id
  append _ _ _ _ _ := id

/-! ### A permit that is released (R127, R128) -/

section Release

variable {s : State} {k p g o : Nat} {tail : List Nat} {op : Operation}

theorem State.releasePermit_of_none (none : s.press.permits.findIdx? (· = some k) = none) : s.releasePermit k = s := by
  unfold State.releasePermit
  rw [none]

theorem State.releasePermit_of_free (held : s.press.permits.findIdx? (· = some k) = some p)
    (empty : s.press.queue = []) :
    s.releasePermit k = s.setPermit p none := by
  unfold State.releasePermit
  simp only [held, empty]

theorem State.releasePermit_of_queue (held : s.press.permits.findIdx? (· = some k) = some p)
    (queue : s.press.queue = g :: tail) : s.releasePermit k = ((s.setPermit p none).setQueue tail).grant p g := by
  unfold State.releasePermit
  simp only [held, queue]

/-- The permit goes from one slot to the next. -/
theorem State.grant_freed (active : (s.slot g).operation = some op) (current : op.current = some o) :
    ((s.setPermit p none).setQueue tail).grant p g = (s.setQueue tail).drive p g o op := by
  rw [State.grant_of_active (s := (s.setPermit p none).setQueue tail) (k := g) (op := op) active current]
  simp [State.drive, State.setPermit, State.setQueue, State.setOutput, State.setOutputs, State.setSlot, State.output]

theorem State.releasePermit_of_head (held : s.press.permits.findIdx? (· = some k) = some p)
    (queue : s.press.queue = g :: tail) (active : (s.slot g).operation = some op) (current : op.current = some o) :
    s.releasePermit k = (s.setQueue tail).drive p g o op := by
  rw [State.releasePermit_of_queue held queue, State.grant_freed active current]

/-- The three things the release of a permit can do. -/
theorem State.releasePermit_cases (s : State) (k : Nat) :
    s.releasePermit k = s ∨ (∃ p q, (q = s.press.queue ∨ ∃ g, s.press.queue = g :: q) ∧
        s.releasePermit k = (s.setPermit p none).setQueue q) ∨
      ∃ p g tail op o, s.press.queue = g :: tail ∧ (s.slot g).operation = some op ∧ op.current = some o ∧
        s.releasePermit k = (s.setQueue tail).drive p g o op := by
  cases held : s.press.permits.findIdx? (· = some k) with
  | none => exact .inl (State.releasePermit_of_none held)
  | some p =>
    cases queue : s.press.queue with
    | nil =>
      refine .inr (.inl ⟨p, [], .inl rfl, ?_⟩)
      rw [State.releasePermit_of_free held queue, State.setQueue, State.setPermit_press]
      rw [← queue]
      rfl
    | cons g tail =>
      by_cases ready : ∃ op o, (s.slot g).operation = some op ∧ op.current = some o
      · obtain ⟨op, o, active, current⟩ := ready
        exact .inr
          (.inr ⟨p, g, tail, op, o, rfl, active, current, State.releasePermit_of_head held queue active current⟩)
      · refine .inr (.inl ⟨p, tail, .inr ⟨g, rfl⟩, ?_⟩)
        rw [State.releasePermit_of_queue held queue]
        unfold State.grant
        split
        · rfl
        next op active =>
          split
          · rfl
          next o current => exact absurd ⟨op, o, active, current⟩ ready

/-- The output of a granted step, wherever it is. -/
theorem State.drive_output_ne {x : Nat} (ne : o ≠ x) : (s.drive p k o op).output x = s.output x := by
  unfold State.drive
  rw [State.output_setPermit, State.output_setSlot, State.output_setOutput_ne ne]

/-- An output that no slot in the queue is at stands. -/
theorem State.releasePermit_output {x : Nat} (k : Nat) (others : OthersWait s x) :
    (s.releasePermit k).output x = s.output x := by
  obtain e | ⟨p, q, -, e⟩ | ⟨p, g, tail, op, o, queue, active, current, e⟩ := s.releasePermit_cases k <;> rw [e]
  · rfl
  · refine State.drive_output_ne (s := s.setQueue tail) ?_
    rintro rfl
    exact others g (by simp [queue]) op active current

/-- A slot stands, or leaves the queue with its step driven. -/
theorem State.releasePermit_slot (s : State) (k j : Nat) : (s.releasePermit k).slot j = s.slot j ∨
    (j ∈ s.press.queue ∧ ∃ op, (s.slot j).operation = some op ∧ (s.releasePermit k).slot j = .driving op) := by
  obtain e | ⟨p, q, -, e⟩ | ⟨p, g, tail, op, o, queue, active, current, e⟩ := s.releasePermit_cases k <;> rw [e]
  · exact .inl rfl
  · exact .inl rfl
  · rw [State.drive_slot]
    split
    next c => exact .inr ⟨by simp [queue, c.1], op, c.1 ▸ active, rfl⟩
    · exact .inl rfl

theorem State.releasePermit_queue (s : State) (k : Nat) :
    (s.releasePermit k).press.queue = s.press.queue ∨ ∃ g, s.press.queue = g :: (s.releasePermit k).press.queue := by
  obtain e | ⟨p, q, hq, e⟩ | ⟨p, g, tail, op, o, queue, active, current, e⟩ := s.releasePermit_cases k <;> rw [e]
  · exact .inl rfl
  · exact hq
  · exact .inr ⟨g, queue⟩

theorem State.mem_queue_of_releasePermit {j : Nat} (mem : j ∈ (s.releasePermit k).press.queue) : j ∈ s.press.queue := by
  obtain e | ⟨g, e⟩ := s.releasePermit_queue k
  · rwa [e] at mem
  · rw [e]
    exact List.mem_cons_of_mem g mem

theorem State.releasePermit_lengths (s : State) (k : Nat) :
    (s.releasePermit k).press.slots.length = s.press.slots.length ∧
      (s.releasePermit k).press.outputs.length = s.press.outputs.length := by
  obtain e | ⟨p, q, -, e⟩ | ⟨p, g, tail, op, o, queue, active, current, e⟩ := s.releasePermit_cases k <;> rw [e]
  · exact ⟨rfl, rfl⟩
  · exact ⟨rfl, rfl⟩
  · simp [State.drive, State.setQueue]

end Release

/-! ### The end of an operation, part by part (R138, R140) -/

/-- The part of the end that moves outputs: before the slot leaves the queue and its end is handed over. -/
def State.givesUp (s : State) (k : Nat) (stamp : Stamp) : State := ((s.unclaim k).cutOffDriven k stamp).disown k

theorem State.endOperation_of_active {s : State} {k : Nat} {op : Operation} (active : (s.slot k).operation = some op)
    (rep : EndReport) :
    s.endOperation k rep = ((s.givesUp k rep.stamp).leaveQueue k).handPressEnd k op.tag rep := by
  unfold State.endOperation
  rw [active]
  rfl

theorem State.endOperation_of_inactive {s : State} {k : Nat} (inactive : (s.slot k).operation = none)
    (rep : EndReport) :
    s.endOperation k rep = s := by
  unfold State.endOperation
  rw [inactive]

/-- What is done with a DRIVEN output whose operation ends, once its permit is gone (R138 step 2, R140). -/
theorem State.cutOff_eq (s : State) (k o : Nat) (stamp : Stamp) : s.cutOff k o stamp =
    if s.faultGone o then (s.setOutput o (s.output o).toIdle).releasePermit k
    else ((s.setOutput o (s.output o).toIdle).releasePermit k).setOutput o
      { (s.output o).toIdle with state := .releasing, windowEnd := some (stamp + 500) } := by
  have accepted : ∀ c, ((s.setOutput o (s.output o).toIdle).releasePermit k).accepted c = s.accepted c := by
    intro c
    have ground := (sameGround_kept (s.setOutput o (s.output o).toIdle)).releasePermit (k := k) (.refl _)
    unfold State.accepted State.contact
    rw [ground.filter]
    rfl
  unfold State.cutOff
  dsimp only
  by_cases gone : s.faultGone o = true
  · rw [if_pos gone]
    obtain none | ⟨c, l, readback, level, ne⟩ := (s.faultGone_iff o).mp gone
    · simp only [none]
    · simp only [readback, accepted, level, if_neg ne]
  · rw [if_neg gone]
    rw [s.faultGone_iff o] at gone
    cases readback : (s.output o).readback with
    | none => exact absurd (.inl readback) gone
    | some c =>
      simp only [accepted]
      cases level : s.accepted c with
      | none => rfl
      | some l =>
        have sense : l = (s.output o).sense := by
          by_contra ne
          exact gone (.inr ⟨c, l, readback, level, ne⟩)
        simp only [sense, if_true]
        rfl

section GivesUp

variable {s : State} {k : Nat} {stamp : Stamp}

/-- The output that the slot drives, if it drives one: the first of them. -/
theorem State.cutOffDriven_of_some {o : Nat}
    (found : s.press.outputs.findIdx? (fun r => r.owner = some k ∧ r.state = .driven) = some o) :
    s.cutOffDriven k stamp = s.cutOff k o stamp := by
  unfold State.cutOffDriven
  rw [found]

theorem State.cutOffDriven_of_none
    (none : s.press.outputs.findIdx? (fun r => r.owner = some k ∧ r.state = .driven) = none) :
    s.cutOffDriven k stamp = s := by
  unfold State.cutOffDriven
  rw [none]

/-- A slot that drives nothing cuts nothing off. -/
theorem State.cutOffDriven_of_undriven (undriven : ∀ o, (s.output o).owner = some k → (s.output o).state ≠ .driven) :
    s.cutOffDriven k stamp = s := by
  cases found : s.press.outputs.findIdx? (fun r => r.owner = some k ∧ r.state = .driven) with
  | none => exact State.cutOffDriven_of_none found
  | some o =>
    obtain ⟨own, driven⟩ := s.drivenOutput_some found
    exact absurd driven (undriven o own)

/-- A slot that drives one output cuts that one off. -/
theorem State.cutOffDriven_of_driven {o : Nat} (own : (s.output o).owner = some k)
    (driven : (s.output o).state = .driven)
    (only : ∀ x, (s.output x).owner = some k → (s.output x).state = .driven → x = o) :
    s.cutOffDriven k stamp = s.cutOff k o stamp := by
  cases found : s.press.outputs.findIdx? (fun r => r.owner = some k ∧ r.state = .driven) with
  | none => exact absurd driven (s.drivenOutput_none found o own)
  | some x =>
    obtain ⟨own', driven'⟩ := s.drivenOutput_some found
    rw [State.cutOffDriven_of_some found, only x own' driven']

theorem State.cutOff_queue (s : State) (k o : Nat) (stamp : Stamp) :
    (s.cutOff k o stamp).press.queue = ((s.setOutput o (s.output o).toIdle).releasePermit k).press.queue ∧
    (s.cutOff k o stamp).press.permits = ((s.setOutput o (s.output o).toIdle).releasePermit k).press.permits ∧
    ∀ j, (s.cutOff k o stamp).slot j = ((s.setOutput o (s.output o).toIdle).releasePermit k).slot j := by
  rw [State.cutOff_eq]
  split <;> exact ⟨rfl, rfl, fun _ => rfl⟩

/-- The other outputs stand where an output is cut off, but for one that a slot in the queue is at. -/
theorem State.cutOff_output_ne {o x : Nat} (ne : o ≠ x) (others : OthersWait s x) :
    (s.cutOff k o stamp).output x = s.output x := by
  have released : ((s.setOutput o (s.output o).toIdle).releasePermit k).output x = s.output x :=
    (State.releasePermit_output (s := s.setOutput o (s.output o).toIdle) k others).trans (State.output_setOutput_ne ne)
  rw [State.cutOff_eq]
  split
  · exact released
  · exact (State.output_setOutput_ne ne).trans released

/-- The output that is cut off (R138 step 2, R140). -/
theorem State.cutOff_output_self {o : Nat} (place : o < s.press.outputs.length) (others : OthersWait s o) :
    (s.cutOff k o stamp).output o = if s.faultGone o then (s.output o).toIdle
      else { (s.output o).toIdle with state := .releasing, windowEnd := some (stamp + 500) } := by
  have released : ((s.setOutput o (s.output o).toIdle).releasePermit k).output o = (s.output o).toIdle :=
    (State.releasePermit_output (s := s.setOutput o (s.output o).toIdle) k others).trans
      (State.output_setOutput_self place)
  have place' : o < ((s.setOutput o (s.output o).toIdle).releasePermit k).press.outputs.length := by
    rw [(State.releasePermit_lengths _ _).2]
    simpa using place
  rw [State.cutOff_eq]
  split
  · exact released
  · exact State.output_setOutput_self place'

theorem State.unclaim_press (s : State) (k : Nat) : (s.unclaim k).press.queue = s.press.queue ∧
    (s.unclaim k).press.permits = s.press.permits ∧ ∀ j, (s.unclaim k).slot j = s.slot j :=
  ⟨rfl, rfl, fun _ => rfl⟩

/-- What gives up outputs leaves a slot, or takes it out of the queue with its step driven. -/
theorem State.givesUp_slot (s : State) (k : Nat) (stamp : Stamp) (j : Nat) : (s.givesUp k stamp).slot j = s.slot j ∨
    (j ∈ s.press.queue ∧ ∃ op, (s.slot j).operation = some op ∧ (s.givesUp k stamp).slot j = .driving op) := by
  have disowned : (s.givesUp k stamp).slot j = ((s.unclaim k).cutOffDriven k stamp).slot j := rfl
  rw [disowned]
  cases found : (s.unclaim k).press.outputs.findIdx? (fun r => r.owner = some k ∧ r.state = .driven) with
  | none =>
    rw [State.cutOffDriven_of_none found]
    exact .inl rfl
  | some o =>
    rw [State.cutOffDriven_of_some found, (State.cutOff_queue _ _ _ _).2.2]
    exact State.releasePermit_slot ((s.unclaim k).setOutput o ((s.unclaim k).output o).toIdle) k j

theorem State.mem_queue_of_givesUp {j : Nat} (mem : j ∈ (s.givesUp k stamp).press.queue) : j ∈ s.press.queue := by
  have disowned : (s.givesUp k stamp).press.queue = ((s.unclaim k).cutOffDriven k stamp).press.queue := rfl
  rw [disowned] at mem
  cases found : (s.unclaim k).press.outputs.findIdx? (fun r => r.owner = some k ∧ r.state = .driven) with
  | none =>
    rw [State.cutOffDriven_of_none found] at mem
    exact mem
  | some o =>
    rw [State.cutOffDriven_of_some found, (State.cutOff_queue _ _ _ _).1] at mem
    exact State.mem_queue_of_releasePermit (s := (s.unclaim k).setOutput o ((s.unclaim k).output o).toIdle) mem

/-- An output that is not the slot's, and that no slot in the queue is at, stands. -/
theorem State.givesUp_output_other {x : Nat} (other : (s.output x).owner ≠ some k)
    (others : OthersWait s x ∨ ∀ o, (s.output o).owner = some k → (s.output o).state ≠ .driven) :
    (s.givesUp k stamp).output x = s.output x := by
  have unclaimed : (s.unclaim k).output x = s.output x := by
    rw [State.unclaim_output, if_neg (fun c => other c.1)]
  have cut : ((s.unclaim k).cutOffDriven k stamp).output x = s.output x := by
    cases found : (s.unclaim k).press.outputs.findIdx? (fun r => r.owner = some k ∧ r.state = .driven) with
    | none => rw [State.cutOffDriven_of_none found, unclaimed]
    | some o =>
      obtain ⟨own, driven⟩ := (s.unclaim k).drivenOutput_some found
      have ne : o ≠ x := by
        rintro rfl
        rw [unclaimed] at own
        exact other own
      obtain others | undriven := others
      · rw [State.cutOffDriven_of_some found, State.cutOff_output_ne (s := s.unclaim k) ne others, unclaimed]
      · rw [State.unclaim_output] at own driven
        split at own
        · simp [OutputRecord.toIdle] at own
        next c =>
          rw [if_neg c] at driven
          exact absurd driven (undriven o own)
  rw [State.givesUp, State.disown_output, cut, if_neg (fun c => other c.1)]

end GivesUp

end Sys2Proof.Machine
end

section
/-! PROOFS. What the journal has, it keeps: an item handed over is a record of its lane or held, through every refill,
and an operation's end is handed over (R101, R103 to R106, R138). -/

namespace Sys2Proof.Machine

/-! ### What the journal has -/

/-- Every item the journal has in `s` it has in `t`. -/
structure KeepsItems (s t : State) : Prop where
  modules : ∀ i, s.hasModuleItem i → t.hasModuleItem i
  outputs : ∀ i, s.hasOutputItem i → t.hasOutputItem i
  ends : ∀ k tag rep, s.hasPressEnd k tag rep → t.hasPressEnd k tag rep

theorem KeepsItems.refl (s : State) : KeepsItems s s := ⟨fun _ => id, fun _ => id, fun _ _ _ => id⟩

theorem KeepsItems.trans {a b c : State} (h : KeepsItems a b) (k : KeepsItems b c) : KeepsItems a c :=
  ⟨fun i x => k.modules i (h.modules i x), fun i x => k.outputs i (h.outputs i x),
    fun n tag rep x => k.ends n tag rep (h.ends n tag rep x)⟩

/-- Blocks other than journal and slots may change. -/
theorem KeepsItems.of_journal {s t : State} (journal : t.journal = s.journal) (slots : ∀ k, t.slot k = s.slot k) :
    KeepsItems s t := by
  have lanes : ∀ l, t.lane l = s.lane l := State.lane_of_journal journal
  exact ⟨fun i => by rw [State.hasModuleItem, State.hasModuleItem, lanes, journal]; exact id,
    fun i => by rw [State.hasOutputItem, State.hasOutputItem, lanes, journal]; exact id,
    fun k tag rep => by rw [State.hasPressEnd, State.hasPressEnd, lanes, slots]; exact id⟩

/-- A record that enters a lane takes nothing away. -/
theorem State.append_keepsItems (s : State) (l : Lane) (r : Record) : KeepsItems s (s.append l r) where
  modules _ h := h.imp (fun m => (s.lane_append_prefix l _ r).mem m) (fun e => by rwa [State.append_modulePending])
  outputs _ h := h.imp (fun m => (s.lane_append_prefix l _ r).mem m) (fun e => by rwa [State.append_outputPending])
  ends _ _ _ h := h.imp (fun ⟨m, e⟩ => ⟨(s.lane_append_prefix l _ r).mem m, e⟩) id

/-- The first pending item goes in as its record (R103 to R107). -/
theorem State.appendPending_keepsItems {s : State} {l : Lane} {p : PendingItem} (first : s.firstPending l = some p) :
    KeepsItems s (s.appendPending l p) := by
  obtain ⟨n, i, rfl, rfl, held⟩ | ⟨n, i, rfl, rfl, held⟩ | ⟨k, tag, rep, rfl, ended, rfl⟩ | ⟨n, rfl⟩ :=
    State.firstPending_some first
  · rw [State.appendPending_module _ held]
    have entered := s.append_keepsItems .urgent (.module i)
    refine ⟨fun j h => ?_, fun j h => ?_, fun k tag rep h => entered.ends k tag rep h⟩
    · obtain recorded | held' := entered.modules j h
      · exact .inl (by rwa [State.lane_setModulePending])
      · by_cases own : n = j.slot
        · rw [State.append_modulePending, ← own] at held'
          have same : i = j := Option.some.inj (Option.some.inj (held.symm.trans held'))
          exact .inl (by simp [same])
        · exact .inr (by simpa [State.setModulePending, List.getElem?_set_ne own] using held')
    · obtain recorded | held' := entered.outputs j h
      · exact .inl (by rwa [State.lane_setModulePending])
      · exact .inr held'
  · rw [State.appendPending_output _ held]
    have entered := s.append_keepsItems .urgent (.output i)
    refine ⟨fun j h => ?_, fun j h => ?_, fun k tag rep h => entered.ends k tag rep h⟩
    · obtain recorded | held' := entered.modules j h
      · exact .inl (by rwa [State.lane_setOutputPending])
      · exact .inr held'
    · obtain recorded | held' := entered.outputs j h
      · exact .inl (by rwa [State.lane_setOutputPending])
      · by_cases own : n = j.output
        · rw [State.append_outputPending, ← own] at held'
          have same : i = j := Option.some.inj (Option.some.inj (held.symm.trans held'))
          exact .inl (by simp [same])
        · exact .inr (by simpa [State.setOutputPending, List.getElem?_set_ne own] using held')
  · rw [State.appendPending_pressEnd _ ended]
    have entered := s.append_keepsItems rep.outcome.lane (.pressEnd k tag rep.outcome rep.failing rep.stamp)
    refine ⟨entered.modules, entered.outputs, fun j tag' rep' h => ?_⟩
    by_cases own : k = j
    · subst own
      have place : k < s.press.slots.length := by
        by_contra beyond
        rw [State.slot, List.getD_eq_getElem?_getD, List.getElem?_eq_none (Nat.le_of_not_lt beyond)] at ended
        exact nomatch ended
      obtain ⟨-, free⟩ | ended' := h
      · exact nomatch ended.symm.trans free
      · obtain ⟨rfl, rfl⟩ := Slot.ended.inj (ended.symm.trans ended')
        exact .inl ⟨by simp, State.slot_setSlot_self (by simpa using place)⟩
    · obtain ⟨recorded, free⟩ | ended' := entered.ends j tag' rep' h
      · exact .inl ⟨recorded, (State.slot_setSlot_ne own).trans free⟩
      · exact .inr ((State.slot_setSlot_ne own).trans ended')
  · exact (s.append_keepsItems l (s.refreshRecord n)).trans (.of_journal rfl fun _ => rfl)

theorem State.refill_keepsItems (s : State) (l : Lane) : KeepsItems s (s.refill l) := by
  unfold State.refill
  generalize l.places - (s.lane l).length = n
  induction n generalizing s with
  | zero => exact .refl s
  | succ n ih =>
    unfold State.refillUpTo
    split
    · exact .refl s
    next p first => exact (State.appendPending_keepsItems first).trans (ih _)

/-! ### Items handed over -/

/-- A MODULE item that is handed over is recorded or held (R101, R103). -/
theorem State.hasModuleItem_handModule {s : State} {i : ModuleItem} (h : i.slot < s.journal.modulePending.length) :
    (s.handModule i).hasModuleItem i := by
  unfold State.handModule
  split
  · exact .inl (by simp)
  · exact (State.refill_keepsItems _ _).modules i (.inr (by simp [State.setModulePending, h]))

theorem State.handModule_sameRelays (s : State) (i : ModuleItem) : SameRelays s (s.handModule i) := by
  unfold State.handModule
  split
  · exact SameRelays.of_journal s _
  · exact (SameRelays.of_journal s _).trans (State.refill_sameRelays _ .urgent)

/-- An object change takes nothing the journal has. -/
theorem State.handChange_keepsItems (s : State) (c : Change) : KeepsItems s (s.handChange c) := by
  have marked : ∀ l, KeepsItems s ((s.setDirty c.object (some l)).refill l) := fun l =>
    (KeepsItems.of_journal (s := s) (t := s.setDirty c.object (some l)) rfl fun _ => rfl).trans
      (State.refill_keepsItems _ _)
  unfold State.handChange
  split
  · split
    · split
      · exact s.append_keepsItems _ _
      · exact marked _
    · split
      · exact marked _
      · exact .refl s
    · exact .refl s
  · exact .refl s

section End

variable {s : State} {k tag : Nat} {rep : EndReport}

/-- The end that is handed over is recorded with the slot FREE, or held in the ENDED slot (R105, R138). -/
theorem State.hasPressEnd_handPressEnd (place : k < s.press.slots.length) :
    (s.handPressEnd k tag rep).hasPressEnd k tag rep := by
  unfold State.handPressEnd
  split
  · exact .inl ⟨by simp, State.slot_setSlot_self (by simpa using place)⟩
  · exact (State.refill_keepsItems _ _).ends k tag rep (.inr (State.slot_setSlot_self place))

/-- The other items, and the ends of other slots, stay with the journal. -/
theorem State.handPressEnd_keeps (s : State) (k tag : Nat) (rep : EndReport) :
    (∀ i, s.hasModuleItem i → (s.handPressEnd k tag rep).hasModuleItem i) ∧
      (∀ i, s.hasOutputItem i → (s.handPressEnd k tag rep).hasOutputItem i) ∧
      ∀ j tag' rep', j ≠ k → s.hasPressEnd j tag' rep' → (s.handPressEnd k tag rep).hasPressEnd j tag' rep' := by
  have slot : ∀ (u : State) (x : Slot) (j tag' : Nat) (rep' : EndReport), j ≠ k → u.hasPressEnd j tag' rep' →
      (u.setSlot k x).hasPressEnd j tag' rep' := by
    intro u x j tag' rep' ne h
    unfold State.hasPressEnd
    rw [State.slot_setSlot_ne (Ne.symm ne)]
    exact h
  unfold State.handPressEnd
  split
  · have entered := s.append_keepsItems rep.outcome.lane (.pressEnd k tag rep.outcome rep.failing rep.stamp)
    exact ⟨entered.modules, entered.outputs, fun j tag' rep' ne h => slot _ _ _ _ _ ne (entered.ends j tag' rep' h)⟩
  · have refilled := State.refill_keepsItems (s.setSlot k (.ended tag rep)) rep.outcome.lane
    exact ⟨fun i h => refilled.modules i h, fun i h => refilled.outputs i h,
      fun j tag' rep' ne h => refilled.ends j tag' rep' (slot _ _ _ _ _ ne h)⟩

end End

/-! ### The press unit alone -/

/-- Nothing but the press unit differs. -/
def OnlyPress (s t : State) : Prop := t = { s with press := t.press }

theorem OnlyPress.refl (s : State) : OnlyPress s s := rfl

theorem OnlyPress.trans {a b c : State} (h : OnlyPress a b) (k : OnlyPress b c) : OnlyPress a c := by
  unfold OnlyPress at *
  rw [k, h]

theorem OnlyPress.journal {s t : State} (h : OnlyPress s t) : t.journal = s.journal := by
  rw [h]

theorem OnlyPress.table {s t : State} (h : OnlyPress s t) : t.table = s.table := by
  rw [h]

theorem OnlyPress.link {s t : State} (h : OnlyPress s t) : t.link = s.link := by
  rw [h]

theorem OnlyPress.ground {s t : State} (h : OnlyPress s t) (inhibit : t.press.inhibit = s.press.inhibit) :
    SameGround s t := by
  rw [h] at inhibit ⊢
  exact ⟨rfl, rfl, rfl, rfl, rfl, rfl, rfl, inhibit, rfl, rfl⟩

theorem State.releasePermit_onlyPress (s : State) (k : Nat) : OnlyPress s (s.releasePermit k) := by
  obtain e | ⟨p, q, -, e⟩ | ⟨p, g, tail, op, o, -, -, -, e⟩ := s.releasePermit_cases k <;> rw [e] <;> exact rfl

theorem State.cutOffDriven_onlyPress (s : State) (k : Nat) (stamp : Stamp) : OnlyPress s (s.cutOffDriven k stamp) := by
  unfold State.cutOffDriven
  split
  · exact .refl s
  next o _ =>
    have released : OnlyPress s ((s.setOutput o (s.output o).toIdle).releasePermit k) :=
      OnlyPress.trans (b := s.setOutput o (s.output o).toIdle) rfl (State.releasePermit_onlyPress _ k)
    rw [State.cutOff_eq]
    split
    · exact released
    · exact released.trans rfl

theorem State.givesUp_onlyPress (s : State) (k : Nat) (stamp : Stamp) : OnlyPress s (s.givesUp k stamp) :=
  (OnlyPress.trans (b := s.unclaim k) rfl (State.cutOffDriven_onlyPress _ k stamp)).trans rfl

/-! ### The end of an operation (R138) -/

section EndOperation

variable {s : State} {k : Nat} {op : Operation} (active : (s.slot k).operation = some op) (rep : EndReport)
include active

theorem State.givesUp_slots_length (stamp : Stamp) : k < (s.givesUp k stamp).press.slots.length := by
  have K := slotsLength_kept s.press.slots.length
  have : (s.givesUp k stamp).press.slots.length = s.press.slots.length :=
    K.outputs _ _ (K.cutOffDriven (K.outputs _ _ rfl))
  rw [this]
  exact State.slot_lt active

theorem State.endOperation_hasPressEnd : (s.endOperation k rep).hasPressEnd k op.tag rep := by
  rw [State.endOperation_of_active active]
  exact State.hasPressEnd_handPressEnd (State.givesUp_slots_length active rep.stamp)

/-- The press unit after the end: what giving up left, with the slot out of the queue and ENDED or FREE. -/
theorem State.endOperation_samePress : SamePress (((s.givesUp k rep.stamp).leaveQueue k).setSlot k (.ended op.tag rep))
    (s.endOperation k rep) := by
  rw [State.endOperation_of_active active]
  exact State.handPressEnd_samePress _ _ _ _

theorem State.endOperation_output (o : Nat) : (s.endOperation k rep).output o = (s.givesUp k rep.stamp).output o :=
  (State.endOperation_samePress active rep).output o

theorem State.endOperation_queue :
    (s.endOperation k rep).press.queue = (s.givesUp k rep.stamp).press.queue.filter (· ≠ k) :=
  (State.endOperation_samePress active rep).queue

theorem State.endOperation_permits : (s.endOperation k rep).press.permits = (s.givesUp k rep.stamp).press.permits :=
  (State.endOperation_samePress active rep).permits

theorem State.endOperation_slot_self : ((s.endOperation k rep).slot k).operation = none := by
  rw [(State.endOperation_samePress active rep).operation, State.slot_setSlot_self]
  · rfl
  · exact State.givesUp_slots_length active rep.stamp

omit active in
/-- The end of an operation keeps every other item the journal has. -/
theorem State.endOperation_keeps (s : State) (k : Nat) (rep : EndReport) :
    (∀ i, s.hasModuleItem i → (s.endOperation k rep).hasModuleItem i) ∧
      (∀ i, s.hasOutputItem i → (s.endOperation k rep).hasOutputItem i) ∧
      ∀ j tag rep', j ≠ k → s.hasPressEnd j tag rep' → (s.endOperation k rep).hasPressEnd j tag rep' := by
  cases active : (s.slot k).operation with
  | none =>
    rw [State.endOperation_of_inactive active]
    exact ⟨fun _ => id, fun _ => id, fun _ _ _ _ => id⟩
  | some op =>
    have journal : ((s.givesUp k rep.stamp).leaveQueue k).journal = s.journal :=
      (s.givesUp_onlyPress k rep.stamp).journal
    have lanes : ∀ l, ((s.givesUp k rep.stamp).leaveQueue k).lane l = s.lane l := State.lane_of_journal journal
    obtain ⟨modules, outputs, ends⟩ := State.handPressEnd_keeps ((s.givesUp k rep.stamp).leaveQueue k) k op.tag rep
    rw [State.endOperation_of_active active]
    refine ⟨fun i h => modules i ?_, fun i h => outputs i ?_, fun j tag rep' ne h => ends j tag rep' ne ?_⟩
    · rw [State.hasModuleItem, lanes, journal]
      exact h
    · rw [State.hasOutputItem, lanes, journal]
      exact h
    · have rests : (s.slot j).operation = none := by
        obtain ⟨-, free⟩ | ended := h
        · rw [free]
          rfl
        · rw [ended]
          rfl
      have slot : ((s.givesUp k rep.stamp).leaveQueue k).slot j = s.slot j := by
        obtain e | ⟨-, op', active', -⟩ := s.givesUp_slot k rep.stamp j
        · exact e
        · exact nomatch rests.symm.trans active'
      rw [State.hasPressEnd, lanes, slot]
      exact h

end EndOperation

/-- A slot of another operation stands through an end, or leaves the queue with its step driven. -/
theorem State.endOperation_slot_other {s : State} {k j : Nat} {op : Operation} (rep : EndReport) (ne : j ≠ k)
    (active : (s.slot j).operation = some op) : (s.endOperation k rep).slot j = s.slot j ∨
      (j ∈ s.press.queue ∧ (s.endOperation k rep).slot j = .driving op) := by
  cases here : (s.slot k).operation with
  | none =>
    rw [State.endOperation_of_inactive here]
    exact .inl rfl
  | some op' =>
    have given : (s.givesUp k rep.stamp).slot j = s.slot j ∨
        (j ∈ s.press.queue ∧ (s.givesUp k rep.stamp).slot j = .driving op) := by
      refine (s.givesUp_slot k rep.stamp j).imp_right fun ⟨mem, x, active', e⟩ => ⟨mem, ?_⟩
      rw [e, Option.some.inj (active'.symm.trans active)]
    obtain e | ⟨rests, -⟩ := (State.endOperation_samePress here rep).slots j
    · rw [e, State.slot_setSlot_ne (Ne.symm ne)]
      exact given
    · rw [State.slot_setSlot_ne (Ne.symm ne)] at rests
      have rests : ((s.givesUp k rep.stamp).slot j).operation = none := rests
      obtain e | ⟨-, e⟩ := given
      · rw [e, active] at rests
        exact nomatch rests
      · rw [e] at rests
        exact nomatch rests

theorem State.endOperation_sameState (s : State) (k : Nat) (rep : EndReport) (n : Nat) :
    (s.object n).sameState ((s.endOperation k rep).object n) :=
  ((sameObjects_kept s).endOperation (.refl s)).objects n

theorem State.endOperation_link (s : State) (k : Nat) (rep : EndReport) : (s.endOperation k rep).link = s.link :=
  (link_kept s.link).endOperation rfl

theorem State.endOperation_ground (s : State) (k : Nat) (rep : EndReport) : SameGround s (s.endOperation k rep) :=
  (sameGround_kept s).endOperation (.refl s)

end Sys2Proof.Machine
end

section
/-! PROOFS. The end of an operation, output by output and permit by permit (R138, R140), and PRESS-ABORT (R139). -/

namespace Sys2Proof.Machine

/-! ### The permit that goes to the head of the queue (R127, R128) -/

/-- Slot g left the head of the queue with permit p, and its step closed its line, output x. -/
structure HeadGranted (s t : State) (p g : Nat) (tail : List Nat) (op : Operation) (x : Nat) : Prop where
  permits : t.press.permits = s.press.permits.set p (some g)
  queue : t.press.queue = tail
  slot : t.slot g = .driving op
  output : t.output x = { s.output x with state := .driven, pulseEnd := some (s.time + (s.output x).pulse) }

theorem State.releasePermit_headGranted {s : State} {k p g x : Nat} {tail : List Nat} {op : Operation}
    (held : s.press.permits.findIdx? (· = some k) = some p) (queue : s.press.queue = g :: tail)
    (waits : s.slot g = .waiting op) (current : op.current = some x) (place : x < s.press.outputs.length) :
    HeadGranted s (s.releasePermit k) p g tail op x := by
  have active : (s.slot g).operation = some op := by rw [waits]; rfl
  rw [State.releasePermit_of_head held queue active current]
  exact ⟨rfl, rfl, by rw [State.drive_slot, if_pos ⟨rfl, State.slot_lt (s := s) active⟩],
    by rw [State.drive_output (s := s.setQueue tail) place, if_pos rfl]; rfl⟩

/-! ### What giving up outputs leaves of each -/

section GivesUp

variable {s : State} {k : Nat} {stamp : Stamp}

/-- What a slot drives is no CLAIMED output. -/
theorem State.unclaim_drives (o : Nat) :
    (((s.unclaim k).output o).owner = some k ∧ ((s.unclaim k).output o).state = .driven) ↔
      ((s.output o).owner = some k ∧ (s.output o).state = .driven) := by
  rw [State.unclaim_output]
  split
  next c => simp [OutputRecord.toIdle, c.2]
  · rfl

theorem State.unclaim_output_of_driven {o : Nat} (driven : (s.output o).state = .driven) :
    (s.unclaim k).output o = s.output o := by
  rw [State.unclaim_output, if_neg (by simp [driven])]

/-- An output that the slot does not drive, and that no slot in the queue is at, stands. -/
theorem State.cutOffDriven_output {x : Nat} (undriven : (s.output x).owner = some k → (s.output x).state ≠ .driven)
    (others : OthersWait s x ∨ ∀ o, (s.output o).owner = some k → (s.output o).state ≠ .driven) :
    (s.cutOffDriven k stamp).output x = s.output x := by
  cases found : s.press.outputs.findIdx? (fun r => r.owner = some k ∧ r.state = .driven) with
  | none => rw [State.cutOffDriven_of_none found]
  | some o =>
    obtain ⟨own, driven⟩ := s.drivenOutput_some found
    have ne : o ≠ x := by
      rintro rfl
      exact undriven own driven
    obtain others | none := others
    · rw [State.cutOffDriven_of_some found, State.cutOff_output_ne ne others]
    · exact absurd driven (none o own)

/-- An output that the slot does not drive is unclaimed and disowned at most. -/
theorem State.givesUp_output_undriven {x : Nat}
    (undriven : (s.output x).owner = some k → (s.output x).state ≠ .driven)
    (others : OthersWait s x ∨ ∀ o, (s.output o).owner = some k → (s.output o).state ≠ .driven) :
    (s.givesUp k stamp).output x =
      if (s.output x).owner = some k ∧ (s.output x).state = .claimed then (s.output x).toIdle
      else if (s.output x).owner = some k ∧ (s.output x).state = .releasing then { s.output x with owner := none }
      else s.output x := by
  have cut : ((s.unclaim k).cutOffDriven k stamp).output x = (s.unclaim k).output x :=
    State.cutOffDriven_output
      (fun own driven => (fun c => undriven c.1 c.2) ((State.unclaim_drives x).mp ⟨own, driven⟩))
      (others.imp id fun none o own driven => (fun c => none o c.1 c.2) ((State.unclaim_drives o).mp ⟨own, driven⟩))
  rw [State.givesUp, State.disown_output, cut, State.unclaim_output]
  split
  · simp [OutputRecord.toIdle]
  · rfl

/-- The one output that the slot drives is cut off (R138 step 2, R140). -/
theorem State.givesUp_output_driven {o : Nat} (own : (s.output o).owner = some k)
    (driven : (s.output o).state = .driven)
    (only : ∀ x, (s.output x).owner = some k → (s.output x).state = .driven → x = o) (others : OthersWait s o) :
    (s.givesUp k stamp).output o = if s.faultGone o then (s.output o).toIdle
      else { (s.output o).toIdle with state := .releasing, windowEnd := some (stamp + 500) } := by
  have unclaimed : (s.unclaim k).output o = s.output o := State.unclaim_output_of_driven driven
  have place : o < (s.unclaim k).press.outputs.length := by
    simpa [State.unclaim, State.setOutputs] using State.output_lt (s := s) (o := o) (by simp [driven])
  have gone : (s.unclaim k).faultGone o = s.faultGone o := by
    rw [Bool.eq_iff_iff, State.faultGone_iff, State.faultGone_iff, unclaimed]
    rfl
  have cut : ((s.unclaim k).cutOffDriven k stamp).output o = if s.faultGone o then (s.output o).toIdle
      else { (s.output o).toIdle with state := .releasing, windowEnd := some (stamp + 500) } := by
    rw [State.cutOffDriven_of_driven (by rwa [unclaimed]) (by rwa [unclaimed])
      (fun x own driven => (fun c => only x c.1 c.2) ((State.unclaim_drives x).mp ⟨own, driven⟩)),
      State.cutOff_output_self (s := s.unclaim k) place others, gone, unclaimed]
  have free : (((s.unclaim k).cutOffDriven k stamp).output o).owner = none := by
    rw [cut]
    split <;> rfl
  rw [State.givesUp, State.disown_output, if_neg (by simp [free]), cut]

/-- A slot that drives nothing holds on to its permit and leaves the queue as it is. -/
theorem State.givesUp_undriven (undriven : ∀ o, (s.output o).owner = some k → (s.output o).state ≠ .driven) :
    (s.givesUp k stamp).press.permits = s.press.permits ∧ (s.givesUp k stamp).press.queue = s.press.queue := by
  have cut : (s.unclaim k).cutOffDriven k stamp = s.unclaim k :=
    State.cutOffDriven_of_undriven fun o own driven =>
      (fun c => undriven o c.1 c.2) ((State.unclaim_drives o).mp ⟨own, driven⟩)
  rw [State.givesUp, cut]
  exact ⟨rfl, rfl⟩

section Driven

variable {o p : Nat} (own : (s.output o).owner = some k) (driven : (s.output o).state = .driven)
  (only : ∀ x, (s.output x).owner = some k → (s.output x).state = .driven → x = o)
  (held : s.press.permits.findIdx? (· = some k) = some p)
include own driven only

/-- The press unit's other parts after the slot gave up the output that it drove. -/
theorem State.givesUp_driven :
    (s.givesUp k stamp).press.queue = (((s.unclaim k).setOutput o (s.output o).toIdle).releasePermit k).press.queue ∧
    (s.givesUp k stamp).press.permits =
      (((s.unclaim k).setOutput o (s.output o).toIdle).releasePermit k).press.permits ∧
    ∀ j, (s.givesUp k stamp).slot j = (((s.unclaim k).setOutput o (s.output o).toIdle).releasePermit k).slot j := by
  have unclaimed : (s.unclaim k).output o = s.output o := State.unclaim_output_of_driven driven
  have cut : (s.unclaim k).cutOffDriven k stamp = (s.unclaim k).cutOff k o stamp :=
    State.cutOffDriven_of_driven (by rwa [unclaimed]) (by rwa [unclaimed])
      (fun x own driven => (fun c => only x c.1 c.2) ((State.unclaim_drives x).mp ⟨own, driven⟩))
  rw [State.givesUp, cut, ← unclaimed]
  exact (s.unclaim k).cutOff_queue k o stamp

include held

/-- With an empty queue the permit becomes free. -/
theorem State.givesUp_freesPermit (empty : s.press.queue = []) :
    (s.givesUp k stamp).press.permits = s.press.permits.set p none ∧ (s.givesUp k stamp).press.queue = [] := by
  obtain ⟨queue, permits, -⟩ := State.givesUp_driven (stamp := stamp) own driven only
  have released := State.releasePermit_of_free (s := (s.unclaim k).setOutput o (s.output o).toIdle) held empty
  rw [released] at queue permits
  exact ⟨permits, queue.trans empty⟩

/-- Otherwise its head gets the permit. -/
theorem State.givesUp_headGranted {g x : Nat} {tail : List Nat} {op : Operation} (queue : s.press.queue = g :: tail)
    (waits : s.slot g = .waiting op) (current : op.current = some x) (ne : g ≠ k) (owner : (s.output x).owner = some g)
    (place : x < s.press.outputs.length) : HeadGranted s (s.givesUp k stamp) p g tail op x := by
  have unclaimed : ∀ x, (s.output x).owner = some g → (s.unclaim k).output x = s.output x := fun x owner => by
    rw [State.unclaim_output, if_neg (by simp [owner, ne])]
  have apart : o ≠ x := by
    rintro rfl
    exact ne (Option.some.inj (owner.symm.trans own))
  have before : ((s.unclaim k).setOutput o (s.output o).toIdle).output x = s.output x := by
    rw [State.output_setOutput_ne apart, unclaimed x owner]
  have granted := State.releasePermit_headGranted (s := (s.unclaim k).setOutput o (s.output o).toIdle) held queue waits
    current (by simpa [State.unclaim, State.setOutputs] using place)
  obtain ⟨queue', permits', slots'⟩ := State.givesUp_driven (stamp := stamp) own driven only
  have output : ((s.unclaim k).cutOffDriven k stamp).output x =
      { s.output x with state := .driven, pulseEnd := some (s.time + (s.output x).pulse) } := by
    have unclaimed' : (s.unclaim k).output o = s.output o := State.unclaim_output_of_driven driven
    have cut : (s.unclaim k).cutOffDriven k stamp = (s.unclaim k).cutOff k o stamp :=
      State.cutOffDriven_of_driven (by rwa [unclaimed']) (by rwa [unclaimed'])
        (fun x own driven => (fun c => only x c.1 c.2) ((State.unclaim_drives x).mp ⟨own, driven⟩))
    have granted' := granted.output
    rw [before] at granted'
    rw [cut, State.cutOff_eq, unclaimed']
    split
    · exact granted'
    · exact (State.output_setOutput_ne apart).trans granted'
  refine ⟨permits'.trans granted.permits, queue'.trans granted.queue, (slots' g).trans granted.slot, ?_⟩
  rw [State.givesUp, State.disown_output, if_neg (by simp [output]), output]

end Driven

end GivesUp

/-! ### The end of an operation, step by step (R138, R140) -/

section EndOperation

variable {s : State} {k : Nat} {op : Operation} (active : (s.slot k).operation = some op) (rep : EndReport)
include active

/-- The end of an operation, by what its DRIVEN output comes to. -/
theorem State.endOperation_of_cut {b : State} (cut : (s.unclaim k).cutOffDriven k rep.stamp = b) :
    s.endOperation k rep = ((b.setOutputs (b.press.outputs.map
      (fun r => if r.owner = some k ∧ r.state = .releasing then { r with owner := none } else r))).setQueue
        (b.press.queue.filter (fun j => j ≠ k))).handPressEnd k op.tag rep := by
  rw [State.endOperation_of_active active, State.givesUp, cut]
  rfl

omit active in
theorem State.faultGone_of_not {o : Nat} (stays : s.faultGone o = false) :
    ∃ c, (s.output o).readback = some c ∧ (s.accepted c = none ∨ s.accepted c = some (s.output o).sense) := by
  have no : ¬ s.faultGone o = true := by simp [stays]
  rw [s.faultGone_iff o, not_or] at no
  obtain ⟨some, level⟩ := no
  obtain ⟨c, readback⟩ := Option.ne_none_iff_exists'.mp some
  refine ⟨c, readback, ?_⟩
  cases accepted : s.accepted c with
  | none => exact .inl rfl
  | some l =>
    refine .inr (congrArg _ ?_)
    by_contra ne
    exact level ⟨c, l, readback, accepted, ne⟩

omit active in
/-- A fault stays exactly where the readback is at the driven sense or UNKNOWN. -/
theorem State.faultGone_eq_false {o c : Nat} (readback : (s.output o).readback = some c)
    (level : s.accepted c = none ∨ s.accepted c = some (s.output o).sense) : s.faultGone o = false := by
  rw [Bool.eq_false_iff, Ne, s.faultGone_iff o]
  rintro (none | ⟨c', l, readback', accepted, ne⟩)
  · exact nomatch readback.symm.trans none
  · obtain rfl := Option.some.inj (readback.symm.trans readback')
    obtain none | same := level
    · exact nomatch none.symm.trans accepted
    · exact ne (Option.some.inj (accepted.symm.trans same))

/-- A slot that the end does not free stands as giving up left it. -/
theorem State.endOperation_slot_of_active {j : Nat} {op' : Operation} (ne : j ≠ k)
    (other : ((s.givesUp k rep.stamp).slot j).operation = some op') :
    (s.endOperation k rep).slot j = (s.givesUp k rep.stamp).slot j := by
  have same : (((s.givesUp k rep.stamp).leaveQueue k).setSlot k (.ended op.tag rep)).slot j =
      (s.givesUp k rep.stamp).slot j := State.slot_setSlot_ne (Ne.symm ne)
  obtain e | ⟨rests, -⟩ := (State.endOperation_samePress active rep).slots j
  · exact e.trans same
  · rw [same] at rests
    exact nomatch rests.symm.trans other

end EndOperation

/-- Ends of operations start no watch. -/
theorem watchesNoMore_kept (s : State) :
    KeptByEnd (fun t => ∀ k, (t.slot k).isWatching = true → (s.slot k).isWatching = true) where
  outputs _ _ := id
  slot t k x idle h j watching := by
    rw [State.slot_setSlot] at watching
    split at watching
    · exact nomatch idle.symm.trans watching
    · exact h j watching
  permit _ _ _ := id
  queue _ _ := id
  dirty _ _ _ := id
  modulePending _ _ _ := id
  outputPending _ _ _ := id
  append _ _ _ _ _ := id

/-! ### PRESS-ABORT (R138 to R140) -/

theorem pressSlots_le_iff (k : Nat) : Config.pressSlots ≤ k ↔ 3 < k := Iff.rfl

/-- Settles O47: what a DRIVEN output comes to is `State.cutOff_eq`, and each part of the end is said by a lemma on what
giving up outputs does. -/
theorem pressIsAborted : Obligations.PressIsAborted := by
  refine ⟨?_, ?_⟩
  · intro s k op rep a b active ha undriven cut once
    refine State.endOperation_of_cut active rep ?_
    rw [← ha]
    by_cases drives : ∃ o, (s.output o).owner = some k ∧ (s.output o).state = .driven
    · obtain ⟨o, own, driven⟩ := drives
      have only : ∀ x, (s.output x).owner = some k → (s.output x).state = .driven → x = o :=
        fun x own' driven' => once x o own' driven' own driven
      have unclaimed : a.output o = s.output o := ha ▸ State.unclaim_output_of_driven driven
      have gone : a.faultGone o = s.faultGone o := by
        rw [Bool.eq_iff_iff, State.faultGone_iff, State.faultGone_iff, unclaimed, ha]
        rfl
      have cutOff : a.cutOffDriven k rep.stamp = a.cutOff k o rep.stamp := by
        refine State.cutOffDriven_of_driven (by rwa [unclaimed]) (by rwa [unclaimed]) fun x own driven => ?_
        rw [ha] at own driven
        exact (fun c => only x c.1 c.2) ((State.unclaim_drives x).mp ⟨own, driven⟩)
      obtain ⟨idle, releasing⟩ := cut o _ (State.output_lt (by simp [driven])) own driven only rfl
      rw [cutOff, State.cutOff_eq, gone, unclaimed]
      cases fault : s.faultGone o with
      | true => exact (idle ((s.faultGone_iff o).mp fault)).symm
      | false =>
        obtain ⟨c, readback, level⟩ := State.faultGone_of_not fault
        exact (releasing c readback level).symm
    · have none : ∀ o, (s.output o).owner = some k → (s.output o).state ≠ .driven := fun o own driven =>
        drives ⟨o, own, driven⟩
      rw [undriven none, ha]
      exact State.cutOffDriven_of_undriven fun o own driven =>
        (fun c => none o c.1 c.2) ((State.unclaim_drives o).mp ⟨own, driven⟩)
  · intro s tag k serves
    refine ⟨fun high => ?_, fun low free => ?_, fun op low active shaped => ?_⟩
    · refine exec_unchanged serves rfl ?_
      simp [serveRequest, servePressAbort, (pressSlots_le_iff k).mpr high, refusal]
    · refine exec_unchanged serves rfl ?_
      have place : ¬ Config.pressSlots ≤ k := by rw [pressSlots_le_iff]; omega
      simp [serveRequest, servePressAbort, place, free, refusal]
    · have place : ¬ Config.pressSlots ≤ k := by rw [pressSlots_le_iff]; omega
      have served : serveRequest (.pressAbort tag k) s =
        (s.endOperation k ⟨.aborted, none, none, s.time⟩, okWith []) := by
        simp [serveRequest, servePressAbort, place, active, endReport]
      have length : s.press.outputs.length = 64 := shaped.outputs
      have ended := State.endOperation_samePress active ⟨.aborted, none, none, s.time⟩
      refine ⟨s.endOperation k ⟨.aborted, none, none, s.time⟩, ?_, rfl, State.endOperation_link _ _ _,
        State.endOperation_hasPressEnd active _, ?_, fun o ho others => ⟨fun own claimed => ?_, fun own releasing => ?_,
          fun only own driven => ⟨fun gone => ?_, fun c readback level => ?_⟩, fun other => ?_⟩,
        fun undriven => ?_, fun o p ho own driven only held unqueued => ⟨fun empty => ?_, ?_⟩,
        State.endOperation_ground _ _ _, State.endOperation_sameState _ _ _⟩
      · refine exec_okWith serves rfl served (fun n => ?_) fun j watching => ?_
        · exact ((congrArg ObjectRecord.timer (s.endOperation_sameState k _ n)).symm)
        · exact (watchesNoMore_kept s).endOperation (fun _ => id) j watching
      · rw [State.endOperation_queue active]
        simp
      · rw [State.endOperation_output active, State.givesUp_output_undriven (by simp [claimed]) others,
          if_pos ⟨own, claimed⟩]
      · rw [State.endOperation_output active, State.givesUp_output_undriven (by simp [releasing]) others,
          if_neg (by simp [releasing]), if_pos ⟨own, releasing⟩]
      · have waits : OthersWait s o := others.resolve_right fun none => none o own driven
        rw [State.endOperation_output active, State.givesUp_output_driven own driven only waits,
          if_pos ((s.faultGone_iff o).mpr gone)]
      · have waits : OthersWait s o := others.resolve_right fun none => none o own driven
        rw [State.endOperation_output active, State.givesUp_output_driven own driven only waits,
          State.faultGone_eq_false readback level]
        rfl
      · rw [State.endOperation_output active, State.givesUp_output_other other others]
      · obtain ⟨permits, queue⟩ := State.givesUp_undriven (stamp := s.time) undriven
        exact ⟨(State.endOperation_permits active _).trans permits, by rw [State.endOperation_queue active, queue]⟩
      · obtain ⟨permits, queue⟩ := State.givesUp_freesPermit (stamp := s.time) own driven only held empty
        exact ⟨(State.endOperation_permits active _).trans permits, by rw [State.endOperation_queue active, queue]; rfl⟩
      · intro h tail waits x queue slot current hh hx owner
        have ne : h ≠ k := fun e => unqueued (by simp [queue, e])
        have granted := State.givesUp_headGranted (stamp := s.time) own driven only held queue slot current ne owner
          (by omega)
        refine ⟨(State.endOperation_permits active _).trans granted.permits, ?_, ?_, ?_⟩
        · rw [State.endOperation_queue active, granted.queue]
          exact List.filter_eq_self.mpr fun j mem => by
            have : j ≠ k := fun e => unqueued (by simp [queue, ← e, mem])
            simpa using this
        · rw [State.endOperation_slot_of_active active _ ne (by rw [granted.slot]; rfl), granted.slot]
        · rw [State.endOperation_output active, granted.output]

end Sys2Proof.Machine
end

section
/-! PROOFS. The end of a pulse and of a release window: what becomes of the output, its slot, its permit and the journal
(R127 to R132). -/

namespace Sys2Proof.Machine

/-! ### An output that becomes FAULTED (R142) -/

theorem SameRelays.output {s t : State} (h : SameRelays s t) (o : Nat) : t.output o = s.output o := by
  unfold State.output
  rw [h.outputs]

section Fault

variable {s : State} {o : Nat} {cause : DriverCause} {stamp : Stamp}

/-- The record of an output that its readback faults (R129, R131). -/
def OutputRecord.faultedBy (r : OutputRecord) (cause : DriverCause) : OutputRecord :=
  { r.toIdle with state := .faulted, fault := some cause }

theorem State.faultOutput_sameRelays (s : State) (o : Nat) (cause : DriverCause) (stamp : Stamp) :
    SameRelays (s.setOutput o ((s.output o).faultedBy cause)) (s.faultOutput o cause stamp) :=
  State.handOutput_sameRelays _ _

theorem State.faultOutput_output_eq (x : Nat) :
    (s.faultOutput o cause stamp).output x = (s.setOutput o ((s.output o).faultedBy cause)).output x :=
  (s.faultOutput_sameRelays o cause stamp).output x

theorem State.faultOutput_output_self (place : o < s.press.outputs.length) :
    (s.faultOutput o cause stamp).output o = (s.output o).faultedBy cause :=
  State.faultOutput_output_eq o |>.trans (State.output_setOutput_self place)

theorem State.faultOutput_output_ne {x : Nat} (ne : o ≠ x) : (s.faultOutput o cause stamp).output x = s.output x :=
  State.faultOutput_output_eq x |>.trans (State.output_setOutput_ne ne)

theorem State.faultOutput_hasOutputItem (place : o < s.journal.outputPending.length) :
    (s.faultOutput o cause stamp).hasOutputItem ⟨o, .faulted, .fault cause, stamp⟩ :=
  State.hasOutputItem_handOutput place

theorem State.faultOutput_operation (k : Nat) :
    ((s.faultOutput o cause stamp).slot k).operation = (s.slot k).operation := by
  obtain e | ⟨tag, rep, before, after⟩ := (s.faultOutput_sameRelays o cause stamp).slots k
  · rw [e]
    rfl
  · have before : s.slot k = .ended tag rep := before
    rw [before, after]
    rfl

end Fault

/-- Slots that wait for other outputs do so as long as the queue and their operations stand. -/
theorem OthersWait.of_operation {s t : State} {o : Nat} (h : OthersWait s o)
    (queue : ∀ j ∈ t.press.queue, j ∈ s.press.queue)
    (operation : ∀ j, (t.slot j).operation = (s.slot j).operation) : OthersWait t o :=
  fun j mem op active => h j (queue j mem) op (by rwa [← operation j])

theorem State.faultOutput_othersWait {s : State} {o x : Nat} {cause : DriverCause} {stamp : Stamp}
    (h : OthersWait s x) :
    OthersWait (s.faultOutput o cause stamp) x :=
  h.of_operation (fun j mem => by rwa [(s.faultOutput_sameRelays o cause stamp).queue] at mem)
    State.faultOutput_operation

/-! ### WINDOW_EXPIRY (R131) -/

theorem State.endWindow_of_fault {s : State} {o c : Nat} {d : Stamp} {cause : DriverCause}
    (readback : (s.output o).readback = some c)
    (shows : (s.accepted c = some (s.output o).sense ∧ cause = .stuck) ∨
      (s.accepted c = none ∧ cause = .readbackLost)) :
    s.endWindow o d = (s.faultOutput o cause d).endOwner (s.output o).owner (faultReport o cause d) := by
  unfold State.endWindow
  obtain ⟨level, rfl⟩ | ⟨level, rfl⟩ := shows
  · simp only [readback, level, if_true]
  · simp only [readback, level]

/-- The end of an operation leaves an output without owner that no slot in the queue is at. -/
theorem State.endOperation_output_free {s : State} {k o : Nat} {rep : EndReport} (free : (s.output o).owner = none)
    (others : OthersWait s o) : (s.endOperation k rep).output o = s.output o := by
  cases active : (s.slot k).operation with
  | none => rw [State.endOperation_of_inactive active]
  | some op =>
    rw [State.endOperation_output active, State.givesUp_output_other (by simp [free]) (.inl others)]

theorem State.endOwner_output_free {s : State} {o : Nat} {owner : Option Nat} {rep : EndReport}
    (free : (s.output o).owner = none) (others : OthersWait s o) : (s.endOwner owner rep).output o = s.output o := by
  cases owner with
  | none => rfl
  | some k => exact State.endOperation_output_free free others

theorem State.endOwner_hasOutputItem {s : State} {owner : Option Nat} {rep : EndReport} {i : OutputItem}
    (h : s.hasOutputItem i) : (s.endOwner owner rep).hasOutputItem i := by
  cases owner with
  | none => exact h
  | some k => exact (State.endOperation_keeps s k rep).2.1 i h

/-- Settles O45: the output is faulted first, and the end of its operation leaves it and its item alone. -/
theorem windowExpires : Obligations.WindowExpires := by
  intro s o d c cause shaped ho releasing window pulse reach others readback shows
  have due : s.windowDue o = some d := by simp [State.windowDue, releasing, window]
  have place : o < (s.at d).press.outputs.length := by
    have : (s.at d).press.outputs.length = 64 := shaped.outputs
    omega
  have pending : o < (s.at d).journal.outputPending.length := by
    have : (s.at d).journal.outputPending.length = 64 := shaped.outputPending
    omega
  have run : exec (.windowExpiry o) s = .next (State.finish (s.at d) ((s.at d).endWindow o d)) := by
    rw [← State.event_reached (act := fun d t => t.endWindow o d) reach, ← due]
    rfl
  have ended := State.endWindow_of_fault (s := s.at d) (d := d) readback shows
  have self : ((s.at d).faultOutput o cause d).output o = (s.output o).faultedBy cause :=
    State.faultOutput_output_self place
  have waits : OthersWait ((s.at d).faultOutput o cause d) o := State.faultOutput_othersWait (s := s.at d) others
  refine ⟨(s.at d).endWindow o d, run, (sameGround_kept _).endWindow (.refl _), (link_kept _).endWindow rfl,
    ((sameObjects_kept (s.at d)).endWindow (.refl _)).objects, ?_, ?_, fun k op hk own active => ?_, fun free => ?_⟩
  · rw [ended, State.endOwner_output_free (by rw [self]; rfl) waits, self]
    simp [OutputRecord.faultedBy, OutputRecord.toIdle, pulse]
  · rw [ended]
    exact State.endOwner_hasOutputItem (State.faultOutput_hasOutputItem pending)
  · have owner : ((s.at d).output o).owner = some k := own
    have working : (((s.at d).faultOutput o cause d).slot k).operation = some op :=
      (State.faultOutput_operation (s := s.at d) k).trans active
    rw [ended, owner]
    exact State.endOperation_hasPressEnd working _
  · have owner : ((s.at d).output o).owner = none := free
    have same := (s.at d).faultOutput_sameRelays o cause d
    rw [ended, owner]
    exact ⟨fun p ne => State.faultOutput_output_ne (Ne.symm ne), same.permits, same.queue⟩

/-! ### The open line (R128) -/

section OpenLine

variable {s : State} {o k : Nat}

theorem State.openLine_output_self (place : o < s.press.outputs.length) (others : OthersWait s o) :
    (s.openLine o k).output o = { s.output o with state := .claimed, pulseEnd := none } :=
  (State.releasePermit_output (s := s.setOutput o _) k others).trans (State.output_setOutput_self place)

theorem State.openLine_accepted (c : Nat) : (s.openLine o k).accepted c = s.accepted c := by
  have ground := (sameGround_kept (s.setOutput o { s.output o with state := .claimed, pulseEnd := none })).releasePermit
    (k := k) (.refl _)
  unfold State.accepted State.contact
  rw [State.openLine, ground.filter]
  rfl

/-- A slot that is not in the queue stands. -/
theorem State.openLine_slot {j : Nat} (unqueued : j ∉ s.press.queue) : (s.openLine o k).slot j = s.slot j := by
  obtain e | ⟨mem, -⟩ :=
    State.releasePermit_slot (s.setOutput o { s.output o with state := .claimed, pulseEnd := none }) k j
  · exact e
  · exact absurd mem unqueued

theorem State.openLine_operation (j : Nat) : ((s.openLine o k).slot j).operation = (s.slot j).operation := by
  obtain e | ⟨-, op, active, e⟩ :=
    State.releasePermit_slot (s.setOutput o { s.output o with state := .claimed, pulseEnd := none }) k j
  · rw [State.openLine, e]
    rfl
  · rw [State.openLine, e]
    exact active.symm

theorem State.mem_queue_of_openLine {j : Nat} (mem : j ∈ (s.openLine o k).press.queue) : j ∈ s.press.queue :=
  State.mem_queue_of_releasePermit (s := s.setOutput o { s.output o with state := .claimed, pulseEnd := none }) mem

theorem State.openLine_othersWait {x : Nat} (h : OthersWait s x) : OthersWait (s.openLine o k) x :=
  h.of_operation (fun _ => State.mem_queue_of_openLine) State.openLine_operation

theorem State.openLine_outputs_length : (s.openLine o k).press.outputs.length = s.press.outputs.length := by
  rw [State.openLine, (State.releasePermit_lengths _ _).2]
  simp

end OpenLine

/-! ### The end of a pulse, by what the readback shows (R129) -/

section EndPulse

variable {s : State} {o k c : Nat} {d : Stamp} {op : Operation} {l : Level} (own : (s.output o).owner = some k)

include own in
theorem State.endPulse_of_sense (readback : (s.output o).readback = some c)
    (level : s.accepted c = some (s.output o).sense)
    (active : ((s.openLine o k).slot k).operation = some op) : s.endPulse o d =
      ((s.openLine o k).setOutput o
        { (s.openLine o k).output o with state := .releasing, windowEnd := some (d + 500) }).setSlot
        k (.releasing op) := by
  rw [State.endPulse_of_owner own]
  simp only [readback, State.openLine_accepted, level, if_true, active]
  rfl

include own in
theorem State.endPulse_of_otherLevel (readback : (s.output o).readback = some c) (level : s.accepted c = some l)
    (other : l ≠ (s.output o).sense) : s.endPulse o d =
      ((s.openLine o k).faultOutput o .noReadback d).endOperation k (faultReport o .noReadback d) := by
  rw [State.endPulse_of_owner own]
  simp only [readback, State.openLine_accepted, level, if_neg other]

include own in
theorem State.endPulse_of_unknown (readback : (s.output o).readback = some c) (level : s.accepted c = none) :
    s.endPulse o d =
      ((s.openLine o k).setOutput o ((s.openLine o k).output o).toIdle).endOperation k
        (faultReport o .readbackLost d) := by
  rw [State.endPulse_of_owner own]
  simp only [readback, State.openLine_accepted, level]

theorem State.setOutput_same (s : State) (o : Nat) : s.setOutput o (s.output o) = s := by
  by_cases place : o < s.press.outputs.length
  · have same : s.press.outputs.set o (s.output o) = s.press.outputs := by
      rw [State.output, List.getD_eq_getElem?_getD, List.getElem?_eq_getElem place]
      exact List.set_getElem_self place
    simp only [State.setOutput, State.setOutputs, same]
  · have same : s.press.outputs.set o (s.output o) = s.press.outputs :=
      List.set_eq_of_length_le (Nat.le_of_not_lt place)
    simp only [State.setOutput, State.setOutputs, same]

/-- The release of an output that is CLAIMED again: its slot goes on (R132). -/
theorem State.completeRelease_of_claimed {t : State} (own : (t.output o).owner = some k)
    (claimed : (t.output o).state = .claimed) (pulse : (t.output o).pulseEnd = none)
    (window : (t.output o).windowEnd = none) : t.completeRelease o = t.releaseDone k := by
  have same : { t.output o with state := .claimed, pulseEnd := none, windowEnd := none } = t.output o := by
    cases record : t.output o
    simp_all
  unfold State.completeRelease
  dsimp only
  split
  next j own' =>
    rw [same, t.setOutput_same o, Option.some.inj (own.symm.trans own')]
  next free => exact nomatch own.symm.trans free

include own in
theorem State.endPulse_of_noReadback (absent : (s.output o).readback = none) (window : (s.output o).windowEnd = none)
    (place : o < s.press.outputs.length) (others : OthersWait s o) :
    s.endPulse o d = (s.openLine o k).releaseDone k := by
  have self := State.openLine_output_self (k := k) place others
  rw [State.endPulse_of_owner own]
  simp only [absent]
  exact State.completeRelease_of_claimed (by rw [self]; exact own) (by rw [self]) (by rw [self])
    (by rw [self]; exact window)

/-- A slot with a gap to its next step waits for it (R132). -/
theorem State.releaseDone_of_gap {t : State} (active : (t.slot k).operation = some op)
    (more : op.step < op.steps.length)
    (gap : op.gap ≠ 0) : t.releaseDone k = t.setSlot k (.gap op (t.time + op.gap)) := by
  unfold State.releaseDone
  simp only [active]
  rw [if_neg (by omega), if_neg gap]

end EndPulse

/-! ### What the end of a pulse leaves of the others -/

/-- From `s` to `t` permits and queue stand, and so do the other slots at work and their outputs. -/
structure LeavesOthers (k : Nat) (s t : State) : Prop where
  permits : t.press.permits = s.press.permits
  queue : t.press.queue = s.press.queue
  slot : ∀ j op, j ≠ k → (s.slot j).operation = some op → t.slot j = s.slot j
  output : ∀ x j, j ≠ k → (s.output x).owner = some j → t.output x = s.output x

theorem LeavesOthers.trans {a b c : State} {k : Nat} (h : LeavesOthers k a b) (g : LeavesOthers k b c) :
    LeavesOthers k a c where
  permits := g.permits.trans h.permits
  queue := g.queue.trans h.queue
  slot j op ne active := by
    have same := h.slot j op ne active
    rw [g.slot j op ne (by rwa [same]), same]
  output x j ne owner := by
    have same := h.output x j ne owner
    rw [g.output x j ne (by rwa [same]), same]

theorem LeavesOthers.of_sameRelays {s t : State} {k : Nat} (h : SameRelays s t) : LeavesOthers k s t where
  permits := h.permits
  queue := h.queue
  slot j op _ active := by
    obtain e | ⟨tag, rep, ended, -⟩ := h.slots j
    · exact e
    · rw [ended] at active
      exact nomatch active
  output x _ _ _ := h.output x

theorem LeavesOthers.setOutput {s : State} {k o : Nat} (r : OutputRecord) (own : (s.output o).owner = some k) :
    LeavesOthers k s (s.setOutput o r) where
  permits := rfl
  queue := rfl
  slot _ _ _ _ := rfl
  output _ _ ne owner := State.output_setOutput_ne fun e => ne (Option.some.inj (owner.symm.trans (e ▸ own)))

theorem LeavesOthers.setSlot (s : State) (k : Nat) (x : Slot) : LeavesOthers k s (s.setSlot k x) where
  permits := rfl
  queue := rfl
  slot _ _ ne _ := State.slot_setSlot_ne (Ne.symm ne)
  output _ _ _ _ := rfl

/-- The end of an operation that drives nothing and does not wait. -/
theorem LeavesOthers.endOperation {s : State} {k : Nat} (rep : EndReport)
    (undriven : ∀ x, (s.output x).owner = some k → (s.output x).state ≠ .driven) (unqueued : k ∉ s.press.queue) :
    LeavesOthers k s (s.endOperation k rep) := by
  cases active : (s.slot k).operation with
  | none =>
    rw [State.endOperation_of_inactive active]
    exact ⟨rfl, rfl, fun _ _ _ _ => rfl, fun _ _ _ _ => rfl⟩
  | some op =>
    obtain ⟨permits, queue⟩ := State.givesUp_undriven (stamp := rep.stamp) undriven
    have slot : ∀ j, (s.givesUp k rep.stamp).slot j = s.slot j := fun j => by
      have cut : (s.unclaim k).cutOffDriven k rep.stamp = s.unclaim k :=
        State.cutOffDriven_of_undriven fun o own driven =>
          (fun c => undriven o c.1 c.2) ((State.unclaim_drives o).mp ⟨own, driven⟩)
      rw [State.givesUp, cut]
      rfl
    refine ⟨(State.endOperation_permits active rep).trans permits, ?_, fun j op' ne busy => ?_, fun x j ne owner => ?_⟩
    · rw [State.endOperation_queue active, queue]
      exact List.filter_eq_self.mpr fun j mem => by
        have : j ≠ k := fun e => unqueued (e ▸ mem)
        simpa using this
    · rw [State.endOperation_slot_of_active active rep ne (by rw [slot]; exact busy), slot]
    · rw [State.endOperation_output active, State.givesUp_output_other (by simp [owner, ne]) (.inr undriven)]

theorem LeavesOthers.faultOutput {s : State} {k o : Nat} (cause : DriverCause) (stamp : Stamp)
    (own : (s.output o).owner = some k) : LeavesOthers k s (s.faultOutput o cause stamp) :=
  (LeavesOthers.setOutput _ own).trans (.of_sameRelays (s.faultOutput_sameRelays o cause stamp))

section EndPulse

variable {s : State} {o k : Nat} {d : Stamp} {op : Operation} (own : (s.output o).owner = some k)
  (slot : s.slot k = .driving op) (unqueued : k ∉ s.press.queue) (others : OthersWait s o)
  (place : o < s.press.outputs.length) (window : (s.output o).windowEnd = none)
include own slot unqueued others place window

/-- After its line is open, the end of a pulse deals with its own slot and output alone, unless its slot goes on to its
next step or its watch. -/
theorem State.endPulse_leavesOthers
    (judged : (s.output o).readback ≠ none ∨ (op.step < op.steps.length ∧ op.gap ≠ 0))
    (undriven : ∀ x, x ≠ o → ((s.openLine o k).output x).owner = some k → ((s.openLine o k).output x).state ≠ .driven) :
    LeavesOthers k (s.openLine o k) (s.endPulse o d) := by
  have self := State.openLine_output_self (k := k) place others
  have own' : ((s.openLine o k).output o).owner = some k := by rw [self]; exact own
  have place' : o < (s.openLine o k).press.outputs.length := by rwa [State.openLine_outputs_length]
  have slot' : (s.openLine o k).slot k = .driving op := (State.openLine_slot unqueued).trans slot
  have unqueued' : k ∉ (s.openLine o k).press.queue := fun mem => unqueued (State.mem_queue_of_openLine mem)
  cases readback : (s.output o).readback with
  | none =>
    obtain ⟨more, gap⟩ := judged.resolve_left (not_not_intro readback)
    rw [State.endPulse_of_noReadback own readback window place others,
      State.releaseDone_of_gap (by rw [slot']; rfl) more gap]
    exact .setSlot _ _ _
  | some c =>
    cases level : s.accepted c with
    | none =>
      rw [State.endPulse_of_unknown own readback level]
      refine (LeavesOthers.setOutput _ own').trans (.endOperation _ (fun x owner => ?_) unqueued')
      by_cases e : o = x
      · subst e
        rw [State.output_setOutput_self place'] at owner
        exact nomatch owner
      · rw [State.output_setOutput_ne e] at owner ⊢
        exact undriven x (Ne.symm e) owner
    | some l =>
      by_cases sense : l = (s.output o).sense
      · rw [State.endPulse_of_sense own readback (sense ▸ level) (op := op) (by rw [slot']; rfl)]
        exact (LeavesOthers.setOutput _ own').trans (.setSlot _ _ _)
      · rw [State.endPulse_of_otherLevel own readback level sense]
        have faulted := (s.openLine o k).faultOutput_sameRelays o .noReadback d
        refine (LeavesOthers.faultOutput _ _ own').trans (.endOperation _ (fun x owner => ?_) ?_)
        · by_cases e : o = x
          · subst e
            rw [State.faultOutput_output_self place'] at owner
            exact nomatch owner
          · rw [State.faultOutput_output_ne e] at owner ⊢
            exact undriven x (Ne.symm e) owner
        · rw [faulted.queue]
          exact unqueued'

variable {p : Nat} (held : s.press.permits.findIdx? (· = some k) = some p)
  (undriven : ∀ x, x ≠ o → (s.output x).owner = some k → (s.output x).state ≠ .driven)
  (judged : (s.output o).readback ≠ none ∨ (op.step < op.steps.length ∧ op.gap ≠ 0))
include held undriven judged

/-- With an empty queue the permit becomes free. -/
theorem State.endPulse_freesPermit (empty : s.press.queue = []) :
    (s.endPulse o d).press.permits = s.press.permits.set p none ∧ (s.endPulse o d).press.queue = [] := by
  have released : s.openLine o k =
      (s.setOutput o { s.output o with state := .claimed, pulseEnd := none }).setPermit p none :=
    State.releasePermit_of_free (s := s.setOutput o { s.output o with state := .claimed, pulseEnd := none }) held empty
  have leaves := State.endPulse_leavesOthers (d := d) own slot unqueued others place window judged fun x ne owner => by
    rw [released, State.output_setPermit, State.output_setOutput_ne (Ne.symm ne)] at owner ⊢
    exact undriven x ne owner
  exact ⟨leaves.permits.trans (by rw [released]; rfl), leaves.queue.trans (by rw [released]; exact empty)⟩

/-- Otherwise its head gets the permit. -/
theorem State.endPulse_headGranted {g x : Nat} {tail : List Nat} {waits : Operation} (queue : s.press.queue = g :: tail)
    (here : s.slot g = .waiting waits) (current : waits.current = some x) (owner : (s.output x).owner = some g)
    (place' : x < s.press.outputs.length) : HeadGranted s (s.endPulse o d) p g tail waits x := by
  have ne : g ≠ k := fun e => unqueued (by simp [queue, e])
  have apart : o ≠ x := fun e => ne (Option.some.inj (owner.symm.trans (e ▸ own)))
  have before : (s.setOutput o { s.output o with state := .claimed, pulseEnd := none }).output x = s.output x :=
    State.output_setOutput_ne apart
  have released : s.openLine o k = ((s.setOutput o { s.output o with state := .claimed, pulseEnd := none }).setQueue
      tail).drive p g x waits :=
    State.releasePermit_of_head (s := s.setOutput o { s.output o with state := .claimed, pulseEnd := none }) held queue
      (by rw [State.slot_setOutput, here]; rfl) current
  have granted :
    HeadGranted (s.setOutput o { s.output o with state := .claimed, pulseEnd := none }) (s.openLine o k) p g tail
      waits x :=
    State.releasePermit_headGranted (s := s.setOutput o { s.output o with state := .claimed, pulseEnd := none })
      held queue
      here current (by simpa using place')
  have output := granted.output
  rw [before] at output
  have leaves :=
    State.endPulse_leavesOthers (d := d) own slot unqueued others place window judged fun y apart' owner' => by
    have other : x ≠ y := fun e => by
      rw [← e, output] at owner'
      exact ne (Option.some.inj (owner.symm.trans owner'))
    rw [released, State.drive_output_ne other, State.output_setQueue,
      State.output_setOutput_ne (Ne.symm apart')] at owner' ⊢
    exact undriven y apart' owner'
  refine ⟨leaves.permits.trans granted.permits, leaves.queue.trans granted.queue, ?_, ?_⟩
  · rw [leaves.slot g waits ne (by rw [granted.slot]; rfl), granted.slot]
  · rw [leaves.output x g ne (by rw [output]; exact owner), output]
    rfl

end EndPulse

/-! ### PULSE_END (R128, R129) -/

/-- Settles O43: the line opens and the permit goes on as `State.openLine` has it, and the readback is judged then. -/
theorem pulseEnds : Obligations.PulseEnds := by
  refine ⟨fun s o => by simp [State.lineClosed], ?_⟩
  intro s o k d op shaped ho hk driven own pulse window reach slot unqueued others
  have due : s.pulseDue o = some d := by simp [State.pulseDue, driven, pulse]
  have run : exec (.pulseEnd o) s = .next (State.finish (s.at d) ((s.at d).endPulse o d)) := by
    rw [← State.event_reached (act := fun d t => t.endPulse o d) reach, ← due]
    rfl
  have outputs : (s.at d).press.outputs.length = 64 := shaped.outputs
  have place : o < (s.at d).press.outputs.length := by omega
  have pending : o < ((s.at d).openLine o k).journal.outputPending.length := by
    have : (s.at d).journal.outputPending.length = 64 := shaped.outputPending
    have same : ((s.at d).openLine o k).journal = (s.at d).journal :=
      (OnlyPress.trans (b := (s.at d).setOutput o { s.output o with state := .claimed, pulseEnd := none }) rfl
        (State.releasePermit_onlyPress _ k)).journal
    rw [same]
    omega
  have self : ((s.at d).openLine o k).output o = { s.output o with state := .claimed, pulseEnd := none } :=
    State.openLine_output_self place others
  have place' : o < ((s.at d).openLine o k).press.outputs.length := by rwa [State.openLine_outputs_length]
  have slot' : ((s.at d).openLine o k).slot k = .driving op :=
    (State.openLine_slot (s := s.at d) (k := k) unqueued).trans slot
  have active : (((s.at d).openLine o k).slot k).operation = some op := by rw [slot']; rfl
  have waits : OthersWait ((s.at d).openLine o k) o := State.openLine_othersWait others
  refine ⟨(s.at d).endPulse o d, run, (sameGround_kept _).endPulse (.refl _), (link_kept _).endPulse rfl,
    ((sameObjects_kept (s.at d)).endPulse (.refl _)).objects, fun c readback level => ?_,
    fun c l readback level other => ?_, fun c readback level => ?_, fun absent => ?_,
    fun p held undriven judged => ⟨fun empty => ?_, fun g tail op' x queue here current hg hx owner => ?_⟩⟩
  · rw [State.endPulse_of_sense (s := s.at d) own readback level active]
    refine ⟨?_, State.slot_setSlot_self (by simpa using State.slot_lt active)⟩
    rw [State.output_setSlot, State.output_setOutput_self place', self]
  · have faulted : (((s.at d).openLine o k).faultOutput o .noReadback d).output o =
        { s.output o with state := .faulted, owner := none, pulseEnd := none, fault := some .noReadback } := by
      rw [State.faultOutput_output_self place', self]
      simp [OutputRecord.faultedBy, OutputRecord.toIdle, window]
    rw [State.endPulse_of_otherLevel (s := s.at d) own readback level other]
    exact ⟨(State.endOperation_output_free (by rw [faulted]) (State.faultOutput_othersWait waits)).trans faulted,
      (State.endOperation_keeps _ _ _).2.1 _ (State.faultOutput_hasOutputItem pending),
      State.endOperation_hasPressEnd ((State.faultOutput_operation k).trans active) _⟩
  · have idle : (((s.at d).openLine o k).setOutput o (((s.at d).openLine o k).output o).toIdle).output o =
        { s.output o with state := .idle, owner := none, pulseEnd := none } := by
      rw [State.output_setOutput_self place', self]
      simp [OutputRecord.toIdle, window]
    rw [State.endPulse_of_unknown (s := s.at d) own readback level]
    have waits' : OthersWait (((s.at d).openLine o k).setOutput o (((s.at d).openLine o k).output o).toIdle) o := waits
    exact ⟨(State.endOperation_output_free (by rw [idle]) waits').trans idle,
      State.endOperation_hasPressEnd (s := ((s.at d).openLine o k).setOutput o _) active _⟩
  · have ended := State.endPulse_of_noReadback (s := s.at d) (d := d) own absent window place others
    refine ⟨ended, fun more gap => ?_⟩
    rw [ended, State.releaseDone_of_gap active more gap]
    have time : ((s.at d).openLine o k).time = max s.time d :=
      ((sameGround_kept ((s.at d).setOutput o { s.output o with state := .claimed, pulseEnd := none })).releasePermit
        (.refl _)).time
    exact ⟨self, by rw [State.slot_setSlot_self (State.slot_lt active), time]⟩
  · exact State.endPulse_freesPermit (s := s.at d) own slot unqueued others place window held undriven judged empty
  · have granted :=
      State.endPulse_headGranted (s := s.at d) (d := d) own slot unqueued others place window held undriven
      judged queue here current owner (by omega)
    exact ⟨granted.permits, granted.queue, granted.slot, granted.output⟩

end Sys2Proof.Machine
end

section
/-! PROOFS. How steps, releases and watches go on: the due step, the completed release, the entry to WATCHING, and the
hand-over of changes to a slot that watches (R126, R127, R132, R134, R135, R137, R141). -/

namespace Sys2Proof.Machine

/-! ### The due step (R126, R128) -/

section StepDue

variable {s : State} {k o p : Nat} {op : Operation}

/-- The lowest free permit, as the search finds it. -/
theorem findIdx?_freePermit {permits : List (Option Nat)} (free : permits[p]? = some none)
    (lowest : ∀ q : Nat, q < p → permits[q]? ≠ some none) : permits.findIdx? (· = none) = some p := by
  rw [findIdx?_eq_some_iff_getElem?]
  refine ⟨⟨none, free, rfl⟩, fun q x lt here => ?_⟩
  have := lowest q lt
  rw [here] at this
  simpa using this

theorem State.stepDue_of_granted (place : k < s.press.slots.length) (current : op.current = some o)
    (empty : s.press.queue = []) (free : s.press.permits.findIdx? (· = none) = some p) :
    s.stepDue k op = s.drive p k o op := by
  have here : ((s.setSlot k (.waiting op)).slot k).operation = some op := by
    rw [State.slot_setSlot_self place]
    rfl
  unfold State.stepDue
  simp only [empty, free]
  rw [State.grant_of_active here current]
  simp [State.drive, State.setSlot, State.setOutput, State.setOutputs, State.setPermit, State.output]

theorem State.stepDue_of_waiting (wait : s.press.queue ≠ [] ∨ none ∉ s.press.permits) :
    s.stepDue k op = (s.setSlot k (.waiting op)).setQueue (s.press.queue ++ [k]) := by
  unfold State.stepDue
  split
  next p empty free =>
    have mem := List.mem_of_getElem? (findIdx?_permit_some free)
    exact absurd mem (wait.resolve_left (not_not_intro empty))
  · rfl

end StepDue

/-! ### A slot goes on from its step (R132, R134) -/

section ReleaseDone

variable {s : State} {k : Nat} {op : Operation} (active : (s.slot k).operation = some op)
include active

theorem State.releaseDone_of_noGap (more : op.step < op.steps.length) (gap : op.gap = 0) :
    s.releaseDone k = s.stepDue k { op with step := op.step + 1 } := by
  unfold State.releaseDone
  simp only [active]
  rw [if_neg (by omega), if_pos gap]

theorem State.releaseDone_of_last (last : op.steps.length ≤ op.step) : s.releaseDone k = s.enterWatching k op := by
  unfold State.releaseDone
  simp only [active]
  rw [if_pos last]

end ReleaseDone

section EnterWatching

variable {s : State} {k : Nat} {op : Operation}

theorem State.enterWatching_of_void
    (void : ∃ i ∈ op.expects, ((s.unclaim k).object i.object).service ≠ .inService) :
    s.enterWatching k op = (s.unclaim k).endOperation k (endReport .expectVoid s.time) := by
  unfold State.enterWatching
  dsimp only
  rw [if_pos (by simpa using void)]
  rfl

theorem State.enterWatching_of_none (none : op.expects = []) :
    s.enterWatching k op = (s.unclaim k).endOperation k (endReport .done s.time) := by
  unfold State.enterWatching
  dsimp only
  rw [if_neg (by simp [none]), if_pos (by simp [none])]
  rfl

theorem State.enterWatching_of_some (some : op.expects ≠ [])
    (serve : ∀ i ∈ op.expects, ((s.unclaim k).object i.object).service = .inService) :
    s.enterWatching k op =
      if op.expects.all ((s.unclaim k).setSlot k (.watching op (s.time + op.watch))).itemMatches then
        ((s.unclaim k).setSlot k (.watching op (s.time + op.watch))).endOperation k (endReport .done s.time)
      else (s.unclaim k).setSlot k (.watching op (s.time + op.watch)) := by
  unfold State.enterWatching
  dsimp only
  rw [if_neg (by simpa using serve), if_neg (by simpa using some)]
  rfl

end EnterWatching

/-! ### The completed release (R132, R141) -/

theorem State.completeRelease_of_owner {s : State} {o k : Nat} (own : (s.output o).owner = some k) :
    s.completeRelease o =
    (s.setOutput o { s.output o with state := .claimed, pulseEnd := none, windowEnd := none }).releaseDone k := by
  unfold State.completeRelease
  dsimp only
  split
  next j own' => rw [Option.some.inj (own'.symm.trans own)]
  next free => exact nomatch own.symm.trans free

theorem State.completeRelease_of_free {s : State} {o : Nat} (free : (s.output o).owner = none) :
    s.completeRelease o = s.setOutput o (s.output o).toIdle := by
  unfold State.completeRelease
  dsimp only
  split
  next k own => exact nomatch own.symm.trans free
  · rfl

/-! ### A hand-over of changes (R135, R137) -/

/-- The latest stamp is a bound that is reached. -/
theorem latest_eq {ts : List Stamp} {first stamp : Stamp} (start : first ≤ stamp) (bound : ∀ t ∈ ts, t ≤ stamp)
    (reached : stamp = first ∨ stamp ∈ ts) : latest first ts = stamp := by
  unfold latest
  induction ts generalizing first with
  | nil => exact (reached.resolve_right List.not_mem_nil).symm
  | cons t ts ih =>
    have le : t ≤ stamp := bound t List.mem_cons_self
    refine ih (Nat.max_le.mpr ⟨start, le⟩) (fun u mem => bound u (List.mem_cons_of_mem t mem)) ?_
    obtain rfl | mem := reached
    · exact .inl (Nat.max_eq_left le).symm
    · obtain rfl | mem := List.mem_cons.mp mem
      · exact .inl (Nat.max_eq_right start).symm
      · exact .inr mem

/-- The changes that an operation watches for. -/
def Operation.watched (op : Operation) (changes : List Change) : List Change :=
  changes.filter (fun c => op.expects.any (·.object = c.object))

theorem Operation.watched_eq (op : Operation) (changes : List Change) :
    op.watched changes = changes.filter (fun c => ∃ i ∈ op.expects, i.object = c.object) :=
  List.filter_congr fun c _ => by rw [Bool.eq_iff_iff, List.any_eq_true]; simp

section JudgeWatch

variable {s : State} {k : Nat} {op : Operation} {e : Stamp} {changes : List Change}

theorem State.judgeWatch_of_idle (idle : (s.slot k).isWatching = false) : State.judgeWatch changes s k = s := by
  unfold State.judgeWatch
  split
  next op e watching =>
    rw [watching] at idle
    exact nomatch idle
  · rfl

theorem State.judgeWatch_eq (watching : s.slot k = .watching op e) : State.judgeWatch changes s k =
    if (op.watched changes).isEmpty then s
    else if (op.watched changes).any (·.presented.code = .outOfService) then
      s.endOperation k (endReport .expectVoid s.time)
    else if op.expects.all s.itemMatches then
      s.endOperation k (endReport .done (latest (e - op.watch) ((op.watched changes).map (·.stamp))))
    else s := by
  unfold State.judgeWatch
  simp only [watching]
  rfl

end JudgeWatch

theorem State.handToPress_eq (s : State) (changes : List Change) :
    s.handToPress changes = [0, 1, 2, 3].foldl (State.judgeWatch changes) s := rfl

/-- What a slot that watches makes of a hand-over. -/
theorem State.judgeWatch_cases {s : State} {k : Nat} {op : Operation} {e : Stamp} {changes watched : List Change}
    (watching : s.slot k = .watching op e)
    (seen : watched = changes.filter (fun c => ∃ i ∈ op.expects, i.object = c.object)) :
    (watched = [] → State.judgeWatch changes s k = s) ∧
    ((∃ c ∈ watched, c.presented.code = .outOfService) →
      State.judgeWatch changes s k = s.endOperation k ⟨.expectVoid, none, none, s.time⟩) ∧
    (watched ≠ [] → (∀ c ∈ watched, c.presented.code ≠ .outOfService) →
      (∀ stamp, (∀ i ∈ op.expects, s.itemMatches i = true) → e - op.watch ≤ stamp →
        (∀ c ∈ watched, c.stamp ≤ stamp) → (stamp = e - op.watch ∨ ∃ c ∈ watched, c.stamp = stamp) →
        State.judgeWatch changes s k = s.endOperation k ⟨.done, none, none, stamp⟩) ∧
      ((∃ i ∈ op.expects, s.itemMatches i = false) → State.judgeWatch changes s k = s)) := by
  rw [← op.watched_eq changes] at seen
  rw [State.judgeWatch_eq watching, ← seen]
  refine ⟨fun empty => by simp [empty], fun void => ?_, fun some serve => ⟨fun stamp fits start bound reached => ?_,
    fun fails => ?_⟩⟩
  · have some : watched ≠ [] := fun empty => by simp [empty] at void
    rw [if_neg (by simpa using some), if_pos (by simpa using void)]
    rfl
  · have last : latest (e - op.watch) (watched.map (·.stamp)) = stamp :=
      latest_eq start (by simpa using bound) (by simpa using reached)
    rw [if_neg (by simpa using some), if_neg (by simpa using serve), if_pos (by simpa using fits), last]
    rfl
  · rw [if_neg (by simpa using some), if_neg (by simpa using serve), if_neg (by simpa using fails)]

/-- Settles O44: each part is the equation of its function. -/
theorem permitsAndReleasesGoOn : Obligations.PermitsAndReleasesGoOn := by
  refine ⟨fun s p k held => ⟨State.releasePermit_of_free held, fun h tail op o queue waits current shaped ho hh => ?_⟩,
    fun s k o op place current => ⟨fun p empty free lowest => ?_, State.stepDue_of_waiting⟩,
    fun s k op active => ⟨State.releaseDone_of_gap active, State.releaseDone_of_noGap active, fun last u hu => ?_⟩,
    fun s k o => ⟨fun own claimed => ?_, fun other => ?_, by simp [State.unclaim, State.setOutputs], rfl⟩,
    fun s o => ⟨fun k => State.completeRelease_of_owner, State.completeRelease_of_free⟩,
    fun s changes => ⟨s.handToPress_eq changes, fun k => ⟨State.judgeWatch_of_idle, fun op e watched watching seen =>
      State.judgeWatch_cases watching seen⟩⟩⟩
  · have outputs : s.press.outputs.length = 64 := shaped.outputs
    have active : (s.slot h).operation = some op := by rw [waits]; rfl
    have place : o < s.press.outputs.length := by omega
    have granted := State.releasePermit_headGranted held queue waits current place
    have only := s.releasePermit_onlyPress k
    have released := State.releasePermit_of_head held queue active current
    refine ⟨_, rfl, granted.queue, granted.permits, granted.slot, granted.output, fun x ne => ?_, fun j ne => ?_,
      only.table, only.journal, only.link, (sameGround_kept s).releasePermit (.refl s)⟩
    · rw [released, State.drive_output_ne (Ne.symm ne)]
      rfl
    · rw [released, State.drive_slot, if_neg (fun c => ne c.1.symm)]
      rfl
  · exact State.stepDue_of_granted place current empty (findIdx?_freePermit free lowest)
  · subst hu
    rw [State.releaseDone_of_last active last]
    refine ⟨State.enterWatching_of_void, State.enterWatching_of_none, fun some serve w hw => ?_⟩
    rw [State.enterWatching_of_some some serve, ← hw]
    exact ⟨fun fits => if_pos (by simpa using fits), fun fails => if_neg (by simpa using fails)⟩
  · rw [State.unclaim_output, if_pos ⟨own, claimed⟩]
    rfl
  · rw [State.unclaim_output, if_neg (fun c => other.elim (· c.1) (· c.2))]

end Sys2Proof.Machine
end

section
/-! PROOFS. The expiries of gaps and watches, and PRESS-INHIBIT (R122, R126, R128, R133, R136). -/

namespace Sys2Proof.Machine

/-! ### GAP_EXPIRY (R133) -/

theorem State.endGap_eq {s : State} {k : Nat} {op : Operation} {e : Stamp} (slot : s.slot k = .gap op e) :
    s.endGap k = s.stepDue k { op with step := op.step + 1 } := by
  unfold State.endGap
  rw [slot]

/-- A due step starts no watch. -/
theorem State.endGap_watching {s : State} {k : Nat} (j : Nat) (watching : ((s.endGap k).slot j).isWatching = true) :
    (s.slot j).isWatching = true := by
  unfold State.endGap at watching
  split at watching
  · exact (watchesNoMore_kept s).stepDue (fun _ => id) j watching
  · exact watching

/-- The end of an event that starts no timer and no watch is the transmitter's choice. -/
theorem State.finish_of_kept {s t : State} (objects : ∀ n, (s.object n).sameState (t.object n))
    (slots : ∀ k, (t.slot k).isWatching = true → (s.slot k).isWatching = true) : State.finish s t = t.chooseFrame :=
  State.finish_quiet (fun n => (objects n).timer) slots

/-- The step that becomes due at the end of a gap is granted a permit, or joins the queue. -/
theorem exec_gapExpiry {s : State} {k o : Nat} {op next : Operation} {e : Stamp} (shaped : Shaped s)
    (slot : s.slot k = .gap op e) (reach : s.mayReach e) (step : next = { op with step := op.step + 1 })
    (current : next.current = some o) (ho : o ≤ 63) :
    ∃ t, exec (.gapExpiry k) s = .next t ∧ SameGround (s.at e) t ∧ (∀ n, (s.object n).sameState (t.object n)) ∧
      (∀ x, x ≠ o → t.output x = s.output x) ∧
      (∀ p, s.press.queue = [] → s.press.permits.findIdx? (· = none) = some p →
        t.slot k = .driving next ∧ t.press.permits = s.press.permits.set p (some k) ∧ t.press.queue = [] ∧
        t.output o = { s.output o with
          state := .driven, pulseEnd := some (max s.time e + (s.output o).pulse) }) ∧
      (s.press.queue ≠ [] ∨ none ∉ s.press.permits →
        t.slot k = .waiting next ∧ t.press.permits = s.press.permits ∧ t.press.queue = s.press.queue ++ [k] ∧
        t.output o = s.output o) := by
  have run : exec (.gapExpiry k) s = .next (State.finish (s.at e) ((s.at e).endGap k)) := by
    have due : (s.slot k).gapExpiry = some e := by rw [slot]; rfl
    rw [← State.event_reached (act := fun _ t => t.endGap k) reach, ← due]
    rfl
  have active : ((s.at e).slot k).operation = some op := (congrArg Slot.operation slot).trans rfl
  have place : k < (s.at e).press.slots.length := State.slot_lt active
  have outputs : (s.at e).press.outputs.length = 64 := shaped.outputs
  have due : (s.at e).endGap k = (s.at e).stepDue k next := step ▸ State.endGap_eq slot
  have objects : ∀ n, ((s.at e).object n).sameState (((s.at e).endGap k).object n) := by
    rw [due]
    exact ((sameObjects_kept (s.at e)).stepDue (.refl _)).objects
  have same : SameRelays ((s.at e).stepDue k next) (((s.at e).endGap k).chooseFrame) := by
    rw [due]
    exact State.chooseFrame_sameRelays _
  have slots : ∀ x, (((s.at e).stepDue k next).slot k) = x → x.operation = some next →
      (((s.at e).endGap k).chooseFrame).slot k = x := by
    intro x here works
    obtain e' | ⟨tag, rep, ended, -⟩ := same.slots k
    · exact e'.trans here
    · rw [← here, ended] at works
      exact nomatch works
  rw [State.finish_of_kept objects State.endGap_watching] at run
  refine ⟨_, run, (sameGround_kept (s.at e)).chooseFrame ?_, fun n => ?_, fun x ne => ?_, fun p empty free => ?_,
    fun wait => ?_⟩
  · rw [due]
    exact (sameGround_kept (s.at e)).stepDue (.refl _)
  · exact (objects n).trans (State.chooseFrame_sameRelays _ |>.objects n)
  · rw [same.output]
    by_cases granted : s.press.queue = [] ∧ ∃ p, s.press.permits.findIdx? (· = none) = some p
    · obtain ⟨empty, p, free⟩ := granted
      rw [State.stepDue_of_granted place current empty free, State.drive_output_ne (Ne.symm ne)]
      rfl
    · have wait : s.press.queue ≠ [] ∨ none ∉ s.press.permits := by
        by_cases empty : s.press.queue = []
        · cases free : s.press.permits.findIdx? (· = none) with
          | none => exact .inr (findIdx?_permit_none free)
          | some p => exact absurd ⟨empty, p, free⟩ granted
        · exact .inl empty
      rw [State.stepDue_of_waiting (s := s.at e) wait]
      rfl
  · have granted := State.stepDue_of_granted (s := s.at e) place current empty free
    refine ⟨slots _ ?_ rfl, ?_, ?_, ?_⟩
    · rw [granted, State.drive_slot, if_pos ⟨rfl, place⟩]
    · rw [same.permits, granted]
      rfl
    · rw [same.queue, granted]
      exact empty
    · rw [same.output, granted, State.drive_output (by omega), if_pos rfl]
      rfl
  · have waits := State.stepDue_of_waiting (s := s.at e) (k := k) (op := next) wait
    refine ⟨slots _ ?_ rfl, ?_, ?_, ?_⟩
    · rw [waits, State.slot_setQueue, State.slot_setSlot_self place]
    · rw [same.permits, waits]
      rfl
    · rw [same.queue, waits]
      rfl
    · rw [same.output, waits]
      rfl

/-! ### WATCH_EXPIRY (R136) -/

theorem exec_watchExpiry {s : State} {k : Nat} {op : Operation} {e : Stamp} (slot : s.slot k = .watching op e)
    (reach : s.mayReach e) : exec (.watchExpiry k) s =
      .next (State.finish (s.at e) ((s.at e).endOperation k ⟨.timedOut, none, none, e⟩)) := by
  have due : (s.slot k).watchExpiry = some e := by rw [slot]; rfl
  have run := State.event_reached (act := fun d t => t.endOperation k (endReport .timedOut d)) reach
  rw [← due] at run
  exact congrArg Host.Outcome.next run

theorem map_eq_self {α : Type} {f : α → α} {l : List α} (h : ∀ a ∈ l, f a = a) : l.map f = l :=
  (List.map_congr_left h).trans (List.map_id' l)

/-- The end of an operation that owns no output leaves every output. -/
theorem State.endOperation_outputs_of_unowned {s : State} {k : Nat} (rep : EndReport)
    (unowned : ∀ o, (s.output o).owner ≠ some k) : (s.endOperation k rep).press.outputs = s.press.outputs := by
  cases active : (s.slot k).operation with
  | none => rw [State.endOperation_of_inactive active]
  | some op =>
    have mem : ∀ r ∈ s.press.outputs, r.owner ≠ some k := by
      intro r mem
      obtain ⟨o, e⟩ := List.mem_iff_getElem?.mp mem
      have := unowned o
      rwa [State.output, List.getD_eq_getElem?_getD, e] at this
    have unclaimed : s.unclaim k = s := by
      have same : s.press.outputs.map (fun r => if r.owner = some k ∧ r.state = .claimed then r.toIdle else r)
          = s.press.outputs :=
        map_eq_self fun r hr => if_neg (fun c => mem r hr c.1)
      rw [State.unclaim, same]
      rfl
    have cut : (s.unclaim k).cutOffDriven k rep.stamp = s := by
      rw [unclaimed, State.cutOffDriven_of_undriven fun o own => absurd own (unowned o)]
    rw [(State.endOperation_samePress active rep).outputs]
    have given : (s.givesUp k rep.stamp).press.outputs = s.press.outputs := by
      rw [State.givesUp, cut]
      exact map_eq_self fun r hr => if_neg (fun c => mem r hr c.1)
    exact given

/-! ### The watch that runs out at once (R134) -/

theorem State.endZeroWatch_of_past {before u : State} {k : Nat} {op : Operation} {e : Stamp}
    (slot : u.slot k = .watching op e) (zero : op.watch = 0) (past : e ≤ u.time)
    (entered : (before.slot k).isWatching = false) :
    State.endZeroWatch before u k = (u.endOperation k ⟨.timedOut, none, none, e⟩).chooseFrame := by
  unfold State.endZeroWatch
  simp only [slot]
  rw [if_pos ⟨zero, past, entered⟩]
  rfl

theorem State.endZeroWatch_of_running {before u : State} {k : Nat}
    (runs : ∀ op e, u.slot k = .watching op e → op.watch ≠ 0 ∨ u.time < e ∨ (before.slot k).isWatching = true) :
    State.endZeroWatch before u k = u := by
  unfold State.endZeroWatch
  split
  next op e slot =>
    refine if_neg fun ⟨zero, past, entered⟩ => ?_
    obtain more | later | watched := runs op e slot
    · exact more zero
    · exact absurd past (Nat.not_le_of_lt later)
    · exact nomatch entered.symm.trans watched
  · rfl

/-- Settles O46: the part takes the expiry at the time that is due, and the step becomes due or the operation ends. -/
theorem gapsAndWatchesExpire : Obligations.GapsAndWatchesExpire := by
  refine ⟨fun s k op next e o shaped _ slot reach step current ho => exec_gapExpiry shaped slot reach step current ho,
    fun s k op e shaped _ slot reach => ?_,
    fun before u k => ⟨fun op e => State.endZeroWatch_of_past, State.endZeroWatch_of_running⟩⟩
  have active : ((s.at e).slot k).operation = some op := (congrArg Slot.operation slot).trans rfl
  exact ⟨_, exec_watchExpiry slot reach, rfl, State.endOperation_hasPressEnd active _, State.endOperation_ground _ _ _,
    State.endOperation_link _ _ _, State.endOperation_sameState (s.at e) _ _,
    State.endOperation_outputs_of_unowned (s := s.at e) _⟩

/-! ### PRESS-INHIBIT (R122) -/

theorem Slot.isPressing_iff (x : Slot) : x.isPressing = true ↔
    ∃ op, x = .waiting op ∨ x = .driving op ∨ x = .releasing op ∨ ∃ e, x = .gap op e := by
  cases x <;> simp [Slot.isPressing, Slot.operation, Slot.isWatching]

/-- The slots that press, taken in ascending order, up to slot n. -/
def State.inhibited (s : State) (n : Nat) : State := (List.range n).foldl State.inhibitSlot (s.setInhibit true)

theorem State.inhibited_succ (s : State) (n : Nat) : s.inhibited (n + 1) = (s.inhibited n).inhibitSlot n := by
  simp [State.inhibited, List.range_succ]

theorem State.inhibitSlot_cases (s : State) (k : Nat) :
    ((s.slot k).isPressing = false ∧ s.inhibitSlot k = s) ∨
      ((s.slot k).isPressing = true ∧ s.inhibitSlot k = s.endOperation k ⟨.inhibited, none, none, s.time⟩) := by
  unfold State.inhibitSlot
  cases pressing : (s.slot k).isPressing with
  | false => exact .inl ⟨rfl, if_neg (by simp)⟩
  | true => exact .inr ⟨rfl, if_pos rfl⟩


theorem Slot.isPressing_eq_true (x : Slot) : x.isPressing = true ↔ x.operation ≠ none ∧ x.isWatching = false := by
  simp [Slot.isPressing, Option.isSome_iff_ne_none]

/-- The end of an operation leaves the operations of the other slots. -/
theorem State.endOperation_operation_ne {s : State} {k j : Nat} (rep : EndReport) (ne : j ≠ k) :
    ((s.endOperation k rep).slot j).operation = (s.slot j).operation := by
  cases active : (s.slot k).operation with
  | none => rw [State.endOperation_of_inactive active]
  | some op =>
    rw [(State.endOperation_samePress active rep).operation, State.slot_setSlot_ne (Ne.symm ne)]
    obtain e | ⟨-, op', works, e⟩ := s.givesUp_slot k rep.stamp j
    · exact congrArg Slot.operation e
    · exact (congrArg Slot.operation e).trans works.symm

theorem State.mem_queue_of_endOperation {s : State} {k j : Nat} {rep : EndReport}
    (mem : j ∈ (s.endOperation k rep).press.queue) : j ∈ s.press.queue := by
  cases active : (s.slot k).operation with
  | none => rwa [State.endOperation_of_inactive active] at mem
  | some op =>
    rw [State.endOperation_queue active] at mem
    exact State.mem_queue_of_givesUp (List.mem_filter.mp mem).1

/-- What PRESS-INHIBIT has done once it took the slots below n. -/
structure InhibitedTo (s : State) (n : Nat) (t : State) : Prop where
  ground : SameGround (s.setInhibit true) t
  link : t.link = s.link
  objects : ∀ m, (s.object m).sameState (t.object m)
  kept : ∀ k, n ≤ k ∨ (s.slot k).isPressing = false → (t.slot k).operation = (s.slot k).operation
  ended : ∀ k, k < n → (s.slot k).isPressing = true → (t.slot k).operation = none
  ends : ∀ k op, k < n → (s.slot k).operation = some op → (s.slot k).isPressing = true →
    t.hasPressEnd k op.tag ⟨.inhibited, none, none, s.time⟩
  watches : ∀ k op e, s.slot k = .watching op e → t.slot k = s.slot k
  watched : ∀ k, (t.slot k).isWatching = true → (s.slot k).isWatching = true
  queue : ∀ k ∈ t.press.queue, k ∈ s.press.queue

/-- A slot not yet taken presses exactly if it pressed before. -/
theorem InhibitedTo.isPressing {s t : State} {n : Nat} (h : InhibitedTo s n t) :
    (t.slot n).isPressing = (s.slot n).isPressing := by
  rw [Bool.eq_iff_iff, Slot.isPressing_eq_true, Slot.isPressing_eq_true, h.kept n (.inl le_rfl)]
  refine and_congr_right fun _ => ?_
  rw [Bool.eq_false_iff, Bool.eq_false_iff]
  refine not_congr ⟨h.watched n, fun watching => ?_⟩
  obtain ⟨op, e, slot⟩ : ∃ op e, s.slot n = .watching op e := by
    cases slot : s.slot n <;> simp_all [Slot.isWatching]
  rw [h.watches n op e slot]
  exact watching

theorem InhibitedTo.step {s t : State} {n : Nat} (h : InhibitedTo s n t) (waits : QueueWaits s) :
    InhibitedTo s (n + 1) (t.inhibitSlot n) := by
  have same := h.isPressing
  obtain ⟨rests, e⟩ | ⟨presses, e⟩ := t.inhibitSlot_cases n <;> rw [e]
  · have rests' : (s.slot n).isPressing = false := same.symm.trans rests
    have below : ∀ k, k < n + 1 → (s.slot k).isPressing = true → k < n := fun k lt presses => by
      have : k ≠ n := fun e => nomatch (e ▸ presses).symm.trans rests'
      omega
    exact ⟨h.ground, h.link, h.objects, fun k c => h.kept k (c.imp_left fun le => by omega),
      fun k lt presses => h.ended k (below k lt presses) presses,
      fun k op lt active presses => h.ends k op (below k lt presses) active presses, h.watches, h.watched, h.queue⟩
  · have presses' : (s.slot n).isPressing = true := same.symm.trans presses
    have time : t.time = s.time := h.ground.time
    obtain ⟨op, active⟩ := Option.ne_none_iff_exists'.mp ((Slot.isPressing_eq_true _).mp presses).1
    have ne : ∀ k, n + 1 ≤ k ∨ (s.slot k).isPressing = false → k ≠ n := fun k c e => by
      obtain le | rests := c
      · omega
      · exact nomatch (e ▸ presses').symm.trans rests
    rw [time]
    refine ⟨h.ground.trans (State.endOperation_ground _ _ _), (State.endOperation_link _ _ _).trans h.link,
      fun m => (h.objects m).trans (State.endOperation_sameState t n _ m), fun k c => ?_, fun k lt pressed => ?_,
      fun k op' lt active' pressed => ?_, fun k op' e' watching => ?_,
      fun k watching => h.watched k ((watchesNoMore_kept t).endOperation (fun _ => id) k watching),
      fun k mem => h.queue k (State.mem_queue_of_endOperation mem)⟩
    · rw [State.endOperation_operation_ne _ (ne k c)]
      exact h.kept k (c.imp_left fun le => by omega)
    · by_cases e' : k = n
      · rw [e']
        exact State.endOperation_slot_self active _
      · rw [State.endOperation_operation_ne _ e']
        exact h.ended k (by omega) pressed
    · by_cases e' : k = n
      · rw [e'] at active' ⊢
        have : op = op' := by
          rw [h.kept n (.inl le_rfl), active'] at active
          exact (Option.some.inj active).symm
        exact this ▸ State.endOperation_hasPressEnd active _
      · exact (State.endOperation_keeps t n _).2.2 k _ _ e' (h.ends k op' (by omega) active' pressed)
    · have other : k ≠ n := ne k (.inr (by rw [watching]; rfl))
      have here := h.watches k op' e' watching
      obtain stands | ⟨mem, -⟩ := State.endOperation_slot_other (s := t) ⟨.inhibited, none, none, s.time⟩ other
        (op := op') (by rw [here, watching]; rfl)
      · exact stands.trans here
      · obtain ⟨x, no⟩ := waits k (h.queue k mem)
        exact nomatch watching.symm.trans no

theorem State.inhibitedTo {s : State} (waits : QueueWaits s) (n : Nat) : InhibitedTo s n (s.inhibited n) := by
  induction n with
  | zero =>
    exact ⟨.refl _, rfl, fun _ => rfl, fun _ _ => rfl, fun _ lt => absurd lt (Nat.not_lt_zero _),
      fun _ _ lt => absurd lt (Nat.not_lt_zero _), fun _ _ _ _ => rfl, fun _ => id, fun _ => id⟩
  | succ n ih =>
    rw [State.inhibited_succ]
    exact ih.step waits

/-- After its four slots, no slot of a shaped part presses. -/
theorem InhibitedTo.no_pressing {s t : State} (h : InhibitedTo s 4 t) (slots : s.press.slots.length = 4) (k : Nat) :
    (t.slot k).isPressing = false := by
  rw [Bool.eq_false_iff, Ne, Slot.isPressing_eq_true, not_and]
  intro active rests
  cases pressing : (s.slot k).isPressing with
  | false =>
    rw [h.kept k (.inr pressing)] at active
    have watching : (s.slot k).isWatching = true := by
      by_contra no
      exact nomatch ((Slot.isPressing_eq_true _).mpr ⟨active, by simpa using no⟩).symm.trans pressing
    obtain ⟨op, e, slot⟩ : ∃ op e, s.slot k = .watching op e := by
      cases slot : s.slot k <;> simp_all [Slot.isWatching]
    rw [h.watches k op e slot, watching] at rests
    exact nomatch rests
  | true =>
    obtain ⟨op, works⟩ := Option.ne_none_iff_exists'.mp ((Slot.isPressing_eq_true _).mp pressing).1
    have place := State.slot_lt works
    exact active (h.ended k (by omega) pressing)

/-- A slot is taken with the time that the request has. -/
def inhibitAt (time : Stamp) (x : State) (k : Nat) : State :=
  if (x.slot k).isPressing = true then x.endOperation k ⟨.inhibited, none, none, time⟩ else x

theorem inhibitAt_eq {x : State} {time : Stamp} (same : x.time = time) (k : Nat) :
    inhibitAt time x k = x.inhibitSlot k ∧ (x.inhibitSlot k).time = time := by
  refine ⟨by rw [State.inhibitSlot, same, inhibitAt, endReport], ?_⟩
  obtain ⟨-, e⟩ | ⟨-, e⟩ := x.inhibitSlot_cases k <;> rw [e]
  · exact same
  · exact (State.endOperation_ground x k _).time.trans same

theorem foldl_inhibitAt {time : Stamp} (ks : List Nat) {x : State} (same : x.time = time) :
    ks.foldl (inhibitAt time) x = ks.foldl State.inhibitSlot x := by
  induction ks generalizing x with
  | nil => rw [List.foldl_nil, List.foldl_nil]
  | cons k ks ih =>
    obtain ⟨step, same'⟩ := inhibitAt_eq same k
    rw [List.foldl_cons, List.foldl_cons, step, ih same']

theorem State.inhibited_eq (s : State) : s.inhibited 4 = [0, 1, 2, 3].foldl (inhibitAt s.time) (s.setInhibit true) := by
  have slots : List.range 4 = [0, 1, 2, 3] := rfl
  rw [State.inhibited, slots, foldl_inhibitAt (time := s.time) [0, 1, 2, 3] (x := s.setInhibit true) rfl]

theorem servePressInhibitOn_eq (s : State) (tag : Octet) : serveRequest (.pressInhibitOn tag) s =
    (s.inhibited 4, okWith [oct 1, oct (s.press.slots.countP (·.isPressing))]) := rfl

/-- What holds of the inhibit unit's slots needs no waiting queue: timers, watches and the link. -/
theorem State.inhibited_kept {P : State → Prop} (K : KeptByEnd P) {s : State} (n : Nat) (h : P (s.setInhibit true)) :
    P (s.inhibited n) := by
  induction n with
  | zero => exact h
  | succ n ih =>
    rw [State.inhibited_succ]
    obtain ⟨-, e⟩ | ⟨-, e⟩ := (s.inhibited n).inhibitSlot_cases n <;> rw [e]
    · exact ih
    · exact K.endOperation ih

/-- Settles O48: the slots are taken one after another, each as the end of its operation says. -/
theorem pressIsInhibited : Obligations.PressIsInhibited := by
  refine ⟨Slot.isPressing_iff, fun s tag serves => ?_⟩
  have link : (s.inhibited 4).link = s.link := State.inhibited_kept (link_kept s.link).toKeptByEnd 4 rfl
  have timers : ∀ n, ((s.inhibited 4).object n).timer = (s.object n).timer := fun n =>
    ((State.inhibited_kept (sameObjects_kept (s.setInhibit true)).toKeptByEnd 4 (.refl _)).objects n).timer
  have run : exec (.pressInhibitOn tag) s = .next ((s.inhibited 4).afterReply 0xB4#8 tag .ok
      [oct 1, oct (s.press.slots.countP (·.isPressing))]) :=
    exec_okWith serves rfl (servePressInhibitOn_eq s tag) timers
      (State.inhibited_kept (watchesNoMore_kept s) 4 fun _ => id)
  refine ⟨fun u hu => ?_, fun shaped waits => ⟨_, run, ?_⟩, fun strap => ?_, fun strap => ?_⟩
  · obtain rfl : u = s.inhibited 4 := hu.trans s.inhibited_eq.symm
    exact ⟨run, link⟩
  · have done := State.inhibitedTo waits 4
    have slots : s.press.slots.length = 4 := shaped.slots
    generalize s.inhibited 4 = u at done
    have ground := done.ground
    exact ⟨ground.inhibit, done.no_pressing slots, fun k op active presses =>
      done.ends k op ((State.slot_lt active).trans_eq slots) active presses, done.watches,
      ground.scanner, ground.filter,
      ground.flash, ground.index, ground.power, ground.time, ground.straps, ground.store, ground.pending, done.objects⟩
  · refine exec_unchanged serves rfl ?_
    simp [serveRequest, servePressInhibitOff, strap, refusal]
  · refine exec_okWith (t := s.setInhibit false) serves rfl ?_ (fun _ => rfl) fun _ => id
    simp [serveRequest, servePressInhibitOff, strap]

end Sys2Proof.Machine
end

section
/-! PROOFS. PRESS: its checks in their order (R123), and what an accepted one does (R124, R126, R128). -/

namespace Sys2Proof.Machine

/-! ### The checks (R123) -/

theorem stepsFit_iff (steps : List Nat) : stepsFit steps = true ↔
    steps ≠ [] ∧ steps.length ≤ 4 ∧ (∀ o ∈ steps, o ≤ 63) ∧ steps.Nodup := by
  have range : ∀ o, o < Config.outputs ↔ o ≤ 63 := fun o => Nat.lt_succ_iff
  simp [stepsFit, range, and_assoc]

theorem readCheckItem_object {c : CheckItemField} {i : CheckItem} (h : readCheckItem c = some i) :
    i.object = c.object := by
  unfold readCheckItem at h
  split at h
  · split at h
    · rw [← Option.some.inj h]
    · exact nomatch h
  · exact nomatch h

/-- The items that are read name the objects of their fields, in order. -/
theorem readCheckItems_objects {fields : List CheckItemField} {items : List CheckItem}
    (h : readCheckItems fields = some items) : items.map (·.object) = fields.map (·.object) := by
  induction fields generalizing items with
  | nil => rw [← Option.some.inj h]; rfl
  | cons c cs ih =>
    unfold readCheckItems at h
    split at h
    next i is one rest =>
      rw [← Option.some.inj h, List.map_cons, List.map_cons, ih rest, readCheckItem_object one]
    · exact nomatch h

section Expects

variable {s : State} {fields : List CheckItemField} {items : List CheckItem}

theorem readCheckItems_forall {P : Nat → Prop} (read : readCheckItems fields = some items) :
    (∀ i ∈ items, P i.object) ↔ ∀ c ∈ fields, P c.object := by
  have names : ∀ n, n ∈ items.map (·.object) ↔ n ∈ fields.map (·.object) := fun n => by
    rw [readCheckItems_objects read]
  simp only [List.mem_map] at names
  refine ⟨fun h c mem => ?_, fun h i mem => ?_⟩
  · obtain ⟨i, mem', e⟩ := (names c.object).mpr ⟨c, mem, rfl⟩
    exact e ▸ h i mem'
  · obtain ⟨c, mem', e⟩ := (names i.object).mp ⟨i, mem, rfl⟩
    exact e ▸ h c mem'

theorem State.readExpects_of_fits (few : fields.length ≤ 4) (read : readCheckItems fields = some items)
    (serve : ∀ i ∈ items, (s.object i.object).service = .inService) : s.readExpects fields = some items := by
  unfold State.readExpects
  simp only [if_pos few, read]
  exact if_pos (by simpa using serve)

theorem State.readExpects_eq_none (misfits : 4 < fields.length ∨ readCheckItems fields = none ∨
    ∃ c ∈ fields, (s.object c.object).service ≠ .inService) : s.readExpects fields = none := by
  unfold State.readExpects
  split
  next few =>
    split
    next items read =>
      obtain many | unread | ⟨c, mem, out⟩ := misfits
      · omega
      · exact nomatch read.symm.trans unread
      · refine if_neg fun all => out ?_
        have all : ∀ i ∈ items, (s.object i.object).service = .inService := by simpa using all
        exact (readCheckItems_forall (P := fun n => (s.object n).service = .inService) read).mp all c mem
    · rfl
  · rfl

end Expects

/-- A search finds the first that fits. -/
theorem find?_eq_some_of_first {l before after : List Nat} {o : Nat} {p : Nat → Bool} (split : l = before ++ o :: after)
    (first : ∀ x ∈ before, p x = false) (fits : p o = true) : l.find? p = some o :=
  List.find?_eq_some_iff_append.mpr ⟨fits, before, after, split, fun x mem => by simp [first x mem]⟩

theorem State.readbackUnknown_iff (s : State) (o : Nat) : s.readbackUnknown o = false ↔
    ∀ c, (s.output o).readback = some c → s.accepted c ≠ none := by
  unfold State.readbackUnknown
  cases (s.output o).readback with
  | none => simp
  | some c => simp [Option.ne_none_iff_isSome]

/-- Checks 4 to 7 in their order: the first fault of the first check that finds one. -/
theorem State.stepFault_eq (s : State) (steps : List Nat) : s.stepFault steps =
    ((steps.find? (fun o => !(s.output o).defined)).map (faultRefusal .notDefined)).or
      (((steps.find? (fun o => (s.output o).state = .faulted)).map (faultRefusal .outputFault)).or
        (((steps.find? s.outputTaken).map (faultRefusal .claimed)).or
          ((steps.find? s.readbackUnknown).map (faultRefusal .badState)))) := by
  unfold State.stepFault
  cases steps.find? (fun o => !(s.output o).defined) with
  | some o => rfl
  | none =>
    cases steps.find? (fun o => (s.output o).state = .faulted) with
    | some o => rfl
    | none =>
      cases steps.find? s.outputTaken with
      | some o => rfl
      | none => cases steps.find? s.readbackUnknown <;> rfl

section StepFault

variable {s : State} {steps before after : List Nat} {o : Nat}

theorem find?_undefined (defined : ∀ x ∈ steps, (s.output x).defined = true) :
    steps.find? (fun o => !(s.output o).defined) = none :=
  List.find?_eq_none.mpr fun o mem => by simp [defined o mem]

theorem find?_faulted (sound : ∀ x ∈ steps, (s.output x).state ≠ .faulted) :
    steps.find? (fun o => (s.output o).state = .faulted) = none :=
  List.find?_eq_none.mpr fun o mem => by simp [sound o mem]

theorem find?_taken (idle : ∀ x ∈ steps, (s.output x).state = .idle) : steps.find? s.outputTaken = none :=
  List.find?_eq_none.mpr fun o mem => by simp [State.outputTaken, idle o mem]

theorem State.stepFault_notDefined (split : steps = before ++ o :: after)
    (first : ∀ x ∈ before, (s.output x).defined = true) (fault : (s.output o).defined = false) :
    s.stepFault steps = some ⟨.notDefined, [oct o]⟩ := by
  rw [State.stepFault_eq, find?_eq_some_of_first split (by simpa using first) (by simp [fault])]
  rfl

theorem State.stepFault_faulted (split : steps = before ++ o :: after)
    (defined : ∀ x ∈ steps, (s.output x).defined = true) (first : ∀ x ∈ before, (s.output x).state ≠ .faulted)
    (fault : (s.output o).state = .faulted) : s.stepFault steps = some ⟨.outputFault, [oct o]⟩ := by
  rw [State.stepFault_eq, find?_undefined defined,
    find?_eq_some_of_first split (by simpa using first) (by simp [fault])]
  rfl

theorem State.stepFault_claimed (split : steps = before ++ o :: after)
    (defined : ∀ x ∈ steps, (s.output x).defined = true) (sound : ∀ x ∈ steps, (s.output x).state ≠ .faulted)
    (first : ∀ x ∈ before, (s.output x).state = .idle) (fault : (s.output o).state ≠ .idle) :
    s.stepFault steps = some ⟨.claimed, [oct o]⟩ := by
  have taken : s.outputTaken o = true := by
    have := sound o (by simp [split])
    unfold State.outputTaken
    cases e : (s.output o).state <;> simp_all
  rw [State.stepFault_eq, find?_undefined defined, find?_faulted sound,
    find?_eq_some_of_first split (fun x mem => by simp [State.outputTaken, first x mem]) taken]
  rfl

variable (defined : ∀ x ∈ steps, (s.output x).defined = true) (idle : ∀ x ∈ steps, (s.output x).state = .idle)
include defined idle

theorem State.stepFault_of_idle : s.stepFault steps = (steps.find? s.readbackUnknown).map (faultRefusal .badState) := by
  rw [State.stepFault_eq, find?_undefined defined, find?_faulted (fun x mem => by simp [idle x mem]), find?_taken idle]
  rfl

theorem State.stepFault_unknown {c : Nat} (split : steps = before ++ o :: after)
    (first : ∀ x ∈ before, ∀ c, (s.output x).readback = some c → s.accepted c ≠ none)
    (readback : (s.output o).readback = some c) (unknown : s.accepted c = none) :
    s.stepFault steps = some ⟨.badState, [oct o]⟩ := by
  have fault : s.readbackUnknown o = true := by simp [State.readbackUnknown, readback, unknown]
  rw [State.stepFault_of_idle defined idle,
    find?_eq_some_of_first split (fun x mem => (s.readbackUnknown_iff x).mpr (first x mem)) fault]
  rfl

theorem State.stepFault_eq_none (known : ∀ x ∈ steps, ∀ c, (s.output x).readback = some c → s.accepted c ≠ none) :
    s.stepFault steps = none := by
  have none : steps.find? s.readbackUnknown = none :=
    List.find?_eq_none.mpr fun o mem => by simp [(s.readbackUnknown_iff o).mpr (known o mem)]
  rw [State.stepFault_of_idle defined idle, none]
  rfl

end StepFault

/-! ### The answers -/

section Serve

variable {s : State} {deskTag gap watch : Nat} {steps : List Nat} {items : List CheckItemField}
  {expects : List CheckItem}
  (running : s.scanner.part = .running) (allowed : s.press.inhibit = false)
include running allowed

theorem servePress_of_misfit (misfit : stepsFit steps = false ∨ s.readExpects items = none) :
    servePress deskTag steps gap watch items s = (s, refusal .badParam) := by
  unfold servePress
  rw [if_neg (by simp [State.running, running]), if_neg (by simp [allowed])]
  obtain steps | expects := misfit
  · rw [if_pos steps]
  · rw [expects]
    split <;> rfl

variable (fit : stepsFit steps = true) (read : s.readExpects items = some expects)
include fit read

theorem servePress_of_fault {r : Reply} (fault : s.stepFault steps = some r) :
    servePress deskTag steps gap watch items s = (s, r) := by
  unfold servePress
  simp [State.running, running, allowed, fit, read, fault]

theorem servePress_of_full (sound : s.stepFault steps = none) (full : s.freeSlot = none) :
    servePress deskTag steps gap watch items s = (s, refusal .noSlot) := by
  unfold servePress
  simp [State.running, running, allowed, fit, read, sound, full]

theorem servePress_of_free {k : Nat} (sound : s.stepFault steps = none) (free : s.freeSlot = some k) :
    servePress deskTag steps gap watch items s =
      ((s.claim k steps).stepDue k ⟨deskTag, steps, 1, clampGap gap, clampWatch watch, expects⟩,
        okWith (oct k :: (oct2 (clampGap gap) ++ oct2 (clampWatch watch)))) := by
  unfold servePress
  simp [State.running, running, allowed, fit, read, sound, free]

end Serve

/-- Settles O41: each check is reached only past those before it. -/
theorem pressIsChecked : Obligations.PressIsChecked := by
  intro s tag deskTag steps gap watch items serves answers means
  have unchanged : ∀ r fields, servePress deskTag steps gap watch items s = (s, ⟨r, fields⟩) → answers r fields :=
    fun r fields served => (means r fields).mpr (exec_unchanged serves rfl served)
  refine ⟨fun rests => ?_, fun running inhibit => ?_, fun running allowed => ⟨fun misfit => ?_,
    fun some few range nodup fewItems read serve => ?_⟩⟩
  · refine unchanged _ _ ?_
    unfold servePress
    rw [if_pos (by simp [State.running, rests])]
    rfl
  · refine unchanged _ _ ?_
    unfold servePress
    rw [if_neg (by simp [State.running, running]), if_pos inhibit]
    rfl
  · refine unchanged _ _ (servePress_of_misfit running allowed ?_)
    by_cases fit : stepsFit steps = true
    · obtain ⟨some, few, range, nodup⟩ := (stepsFit_iff steps).mp fit
      refine .inr (State.readExpects_eq_none ?_)
      obtain no | no | ⟨o, mem, no⟩ | no | rest := misfit
      · exact absurd no some
      · omega
      · exact absurd no (Nat.not_lt_of_le (range o mem))
      · exact absurd nodup no
      · exact rest
    · exact .inl (by simpa using fit)
  · have fit : stepsFit steps = true := (stepsFit_iff steps).mpr ⟨some, few, range, nodup⟩
    obtain ⟨expects, read⟩ := Option.ne_none_iff_exists'.mp read
    have serve' := (readCheckItems_forall (P := fun n => (s.object n).service = .inService) read).mpr serve
    have read' := State.readExpects_of_fits fewItems read serve'
    have fault : ∀ r fields, s.stepFault steps = .some ⟨r, fields⟩ → answers r fields := fun r fields e =>
      unchanged r fields (servePress_of_fault running allowed fit read' e)
    refine ⟨fun o before after split first no => fault _ _ (State.stepFault_notDefined split first no),
      fun defined => ⟨fun o before after split first no => fault _ _ (State.stepFault_faulted split defined first no),
      fun sound => ⟨fun o before after split first no =>
        fault _ _ (State.stepFault_claimed split defined sound first no),
      fun idle => ⟨fun o c before after split first readback no =>
        fault _ _ (State.stepFault_unknown defined idle split first readback no), fun known full => ?_⟩⟩⟩⟩
    have none : s.freeSlot = none := List.findIdx?_eq_none_iff.mpr fun x mem => by simp [full x mem]
    exact unchanged _ _ (servePress_of_full running allowed fit read' (State.stepFault_eq_none defined idle known) none)

/-! ### The accepted PRESS (R124) -/

theorem clampGap_eq (g : Nat) : clampGap g = min g 2000 := by
  rw [clampGap, clamp_eq_min_max (Nat.zero_le _), Nat.max_eq_left (Nat.zero_le _)]

theorem clampWatch_eq (w : Nat) : clampWatch w = min w 60000 := by
  rw [clampWatch, clamp_eq_min_max (Nat.zero_le _), Nat.max_eq_left (Nat.zero_le _)]

/-- The lowest slot that is FREE. -/
theorem State.freeSlot_eq_some {s : State} {k : Nat} (place : k < s.press.slots.length)
    (free : (s.slot k).isFree = true)
    (lowest : ∀ j, j < k → (s.slot j).isFree = false) : s.freeSlot = some k := by
  have here : ∀ (j : Nat) (x : Slot), s.press.slots[j]? = some x → s.slot j = x := fun j x e => by
    rw [State.slot, List.getD_eq_getElem?_getD, e]
    rfl
  refine findIdx?_eq_some_iff_getElem?.mpr ⟨⟨_, List.getElem?_eq_getElem place, ?_⟩, fun j x lt e => ?_⟩
  · rw [← here k _ (List.getElem?_eq_getElem place)]
    exact free
  · rw [← here j x e]
    exact lowest j lt

/-- A claim touches the outputs alone. -/
theorem State.claim_onlyPress (s : State) (k : Nat) (steps : List Nat) : OnlyPress s (s.claim k steps) := rfl

theorem State.stepDue_onlyPress (s : State) (k : Nat) (op : Operation) : OnlyPress s (s.stepDue k op) := by
  unfold State.stepDue
  split
  · unfold State.grant
    split
    · exact rfl
    · split <;> exact rfl
  · exact rfl

/-- Settles O42: the step list is claimed for the lowest FREE slot, and its first step is due. -/
theorem pressIsAccepted : Obligations.PressIsAccepted := by
  intro s tag deskTag first rest steps gap watch items expects k op serves shaped running allowed hsteps few range nodup
    fewItems read serve fits hk free lowest hop
  have fit : stepsFit steps = true := (stepsFit_iff steps).mpr ⟨by simp [hsteps], few, range, nodup⟩
  have slots : s.press.slots.length = 4 := shaped.slots
  have outputs : s.press.outputs.length = 64 := shaped.outputs
  have place : k < s.press.slots.length := by omega
  have served : servePress deskTag steps gap watch items s = ((s.claim k steps).stepDue k op,
      okWith (oct k :: (oct2 (min gap 2000) ++ oct2 (min watch 60000)))) := by
    rw [servePress_of_free running allowed fit (State.readExpects_of_fits fewItems read serve)
      (State.stepFault_eq_none (fun o mem => (fits o mem).1) (fun o mem => (fits o mem).2.1)
        fun o mem => (fits o mem).2.2) (State.freeSlot_eq_some place free lowest), clampGap_eq, clampWatch_eq, hop]
  have current : op.current = some first := by
    subst hop hsteps
    rfl
  have claimed : ∀ o ∈ steps, (s.claim k steps).output o = { s.output o with state := .claimed, owner := some k } :=
    fun o mem => by
      have := range o mem
      rw [State.output_claim, if_pos ⟨mem, by omega⟩]
  have unclaimed : ∀ o, o ∉ steps → (s.claim k steps).output o = s.output o := fun o out => by
    rw [State.output_claim, if_neg (fun c => out c.1)]
  have mem : first ∈ steps := by simp [hsteps]
  have apart : ∀ o ∈ rest, o ≠ first := by
    rintro o here rfl
    rw [hsteps] at nodup
    exact (List.nodup_cons.mp nodup).1 here
  have mem_rest : ∀ o ∈ rest, o ∈ steps := fun o here => by simp [hsteps, here]
  have only := (s.claim_onlyPress k steps).trans (State.stepDue_onlyPress _ k op)
  have ground : SameGround s ((s.claim k steps).stepDue k op) :=
    (sameGround_kept s).stepDue ⟨rfl, rfl, rfl, rfl, rfl, rfl, rfl, rfl, rfl, rfl⟩
  refine ⟨(s.claim k steps).stepDue k op, ?_, only.link, ?_⟩
  · refine exec_okWith serves rfl served (fun n => ?_) fun j watching => ?_
    · rw [State.object, only.table]
      rfl
    · exact (watchesNoMore_kept (s.claim k steps)).stepDue (fun _ => id) j watching
  by_cases granted : s.press.queue = [] ∧ ∃ p, s.press.permits.findIdx? (· = none) = some p
  · obtain ⟨empty, p, found⟩ := granted
    have step := State.stepDue_of_granted (s := s.claim k steps) place current empty found
    have length : first < (s.claim k steps).press.outputs.length := by
      have := range first mem
      simp only [State.claim, State.setOutputs_press, List.length_mapIdx]
      omega
    refine ⟨fun o out => ?_, fun o here => ?_, fun j ne => ?_, fun p' _ hole lowest' => ?_, fun wait => ?_, only.table,
      only.journal, ground⟩
    · rw [step, State.drive_output_ne (by rintro rfl; exact out mem), unclaimed o out]
    · rw [step, State.drive_output_ne (apart o here).symm, claimed o (mem_rest o here)]
    · rw [step, State.drive_slot, if_neg (fun c => ne c.1.symm)]
      rfl
    · obtain rfl : p = p' := Option.some.inj (found.symm.trans (findIdx?_freePermit hole lowest'))
      rw [step]
      refine ⟨?_, empty, rfl, ?_⟩
      · rw [State.drive_slot, if_pos ⟨rfl, place⟩]
      · rw [State.drive_output length, if_pos rfl, claimed first mem]
        rfl
    · obtain wait | wait := wait
      · exact absurd empty wait
      · exact absurd (List.mem_of_getElem? (findIdx?_permit_some found)) wait
  · have wait : s.press.queue ≠ [] ∨ none ∉ s.press.permits := by
      by_cases empty : s.press.queue = []
      · cases found : s.press.permits.findIdx? (· = none) with
        | none => exact .inr (findIdx?_permit_none found)
        | some p => exact absurd ⟨empty, p, found⟩ granted
      · exact .inl empty
    have step := State.stepDue_of_waiting (s := s.claim k steps) (k := k) (op := op) wait
    refine ⟨fun o out => ?_, fun o here => ?_, fun j ne => ?_, fun p empty hole lowest' => ?_, fun _ => ?_, only.table,
      only.journal, ground⟩
    · rw [step]
      exact unclaimed o out
    · rw [step]
      exact claimed o (mem_rest o here)
    · rw [step, State.slot_setQueue, State.slot_setSlot_ne (Ne.symm ne)]
      rfl
    · exact absurd ⟨empty, p, findIdx?_freePermit hole lowest'⟩ granted
    · rw [step]
      exact ⟨State.slot_setSlot_self place, rfl, rfl, claimed first mem⟩

end Sys2Proof.Machine
end

section
/-! PROOFS. The start of a scan and the expiry of an object timer, and what follows an event at its end (R6, R8, R78,
R79, R95, R155). -/

namespace Sys2Proof.Machine

/-! ### SCAN_START (R6, R8) -/

theorem scanSlots_eq (ms : List ModuleRecord) :
    scanSlots ms = (ms.filter (·.state ≠ .outOfService)).map (·.slot) := by
  simp [scanSlots]

/-- Settles O5: only the scanner is written, so that nothing follows but the transmitter's choice. -/
theorem scanStarts : Obligations.ScanStarts := by
  intro s d rests next reach u hu
  have started : (s.at d).startScan = u := by
    rw [hu, State.startScan, scanSlots_eq]
    rfl
  have run : exec .scanStart s = .next (State.finish (s.at d) u) := by
    have event := State.event_reached (act := fun _ t => t.startScan) reach
    rw [started, ← next] at event
    rw [← event]
    exact congrArg Host.Outcome.next (if_pos rests)
  refine ⟨run, State.finish_of_kept (s := s.at d) (fun _ => ?_) (fun k => ?_), fun sending => ?_,
    u.chooseFrame_sameRelays⟩
  · subst hu
    rfl
  · subst hu
    exact id
  · exact State.chooseFrame_of_sending (Option.isSome_iff_ne_none.mpr sending)

/-! ### What follows an event at its end (R79) -/

theorem State.expireAtOnce_of_past {before u : State} {n : Nat} {e : Stamp} (timer : (u.object n).timer = some e)
    (past : e ≤ u.time) (started : (before.object n).timer ≠ some e) :
    State.expireAtOnce before u n = (u.expireTimer n e).chooseFrame := by
  unfold State.expireAtOnce
  simp only [timer]
  exact if_pos ⟨past, started⟩

theorem State.expireAtOnce_of_running {before u : State} {n : Nat}
    (runs : ∀ e, (u.object n).timer = some e → u.time < e ∨ (before.object n).timer = some e) :
    State.expireAtOnce before u n = u := by
  unfold State.expireAtOnce
  split
  · rfl
  next e timer =>
    refine if_neg fun ⟨past, started⟩ => ?_
    obtain later | ran := runs e timer
    · exact absurd past (Nat.not_le_of_lt later)
    · exact started ran

/-- An event that starts no watch and no timer that is due already ends with the transmitter's choice. -/
theorem State.finish_of_running {before t : State}
    (timers : ∀ n e, (t.object n).timer = some e → t.time < e ∨ (before.object n).timer = some e)
    (slots : ∀ k, (t.slot k).isWatching = true → (before.slot k).isWatching = true) :
    State.finish before t = t.chooseFrame := by
  have same := t.chooseFrame_sameRelays
  unfold State.finish State.settle
  have objects : ∀ n, State.expireAtOnce before t.chooseFrame n = t.chooseFrame := fun n => by
    refine State.expireAtOnce_of_running fun e timer => ?_
    rw [same.time]
    exact timers n e (by rwa [(same.objects n).timer] at timer)
  have watches : ∀ k, State.endZeroWatch before t.chooseFrame k = t.chooseFrame := fun k =>
    State.endZeroWatch_of_running fun op e slot => .inr (.inr (slots k (same.watching k (by rw [slot]; rfl))))
  rw [foldl_id objects, foldl_id watches]

/-! ### OBJECT_TIMER_EXPIRY (R78) -/

/-- The outcome of an exhausted timer starts none (R78), for POINTS where it ran in MOVING (R77). -/
theorem State.rule_of_expired {s : State} {d : Definition} {old : Presented}
    (moving : d.kind = .points → old.code = .moving) :
    (s.rule d old true).timer ≠ .start := by
  unfold State.rule
  split
  · exact nofun
  · split
    · unfold trackRule
      split_ifs <;> simp_all
    next kind =>
      unfold pointsRule
      have := moving kind
      split_ifs <;> simp_all
    · unfold signalRule
      split
      · exact nofun
      · split_ifs <;> simp_all
    · cases ((d.refOf .lamp).map s.lampOf).getD .unknown <;> exact nofun
    · unfold relayRule
      split_ifs <;> simp_all

theorem nextTimer_of_stopped {a : TimerAction} (h : a ≠ .start) (e : Stamp) : nextTimer a none e = none := by
  cases a with
  | start => exact absurd rfl h
  | cancel => rfl
  | keep => rfl

theorem resolveRecord_cause {n : Nat} {cause : ChangeCause} {stamp : Stamp} {o : ObjectRecord} {d : Definition}
    {old : Presented} {k : KindOutcome} {c : Change} (h : (resolveRecord n cause stamp o d old k).2 = some c) :
    c.cause = cause := by
  by_cases same : k.presents o old stamp = old
  · rw [resolveRecord_of_same _ _ _ _ _ _ _ same] at h
    exact nomatch h
  · rw [resolveRecord_of_changed _ _ _ _ _ _ _ same] at h
    rw [← Option.some.inj h]

/-- A hand-over of no change does nothing. -/
theorem State.handToPress_nil (s : State) : s.handToPress [] = s := by
  refine foldl_id (fun k => ?_) _
  unfold State.judgeWatch
  split <;> rfl

theorem State.setObject_setObject (s : State) (n : Nat) (a b : ObjectRecord) :
    (s.setObject n a).setObject n b = s.setObject n b := by
  simp [State.setObject, State.setObjects]

section ExpireTimer

variable {s w : State} {n : Nat} {e : Stamp} {d : Definition} {old : Presented} {r : ObjectRecord × Option Change}
  (place : n < s.table.objects.length) (service : (s.object n).service = .inService)
  (definition : (s.object n).definition = some d) (presented : (s.object n).presented = some old)
  (hr : r = resolveRecord n .timer e { s.object n with timer := none } d old (s.rule d old true))
include place service definition presented hr

/-- The timer goes, and the object is resolved from the views as they stand. -/
theorem State.expireTimer_eq : s.expireTimer n e =
    ((s.setObject n r.1).handOn r.2).handToPress r.2.toList := by
  have here : (s.setObject n { s.object n with timer := none }).object n = { s.object n with timer := none } :=
    State.object_setObject_self place
  have rule : (s.setObject n { s.object n with timer := none }).rule d old true = s.rule d old true := rfl
  unfold State.expireTimer
  dsimp only
  rw [State.resolve_of_serving (s := s.setObject n { s.object n with timer := none }) (d := d) (old := old)
    (by rw [here]; exact service) (by rw [here]; exact definition) (by rw [here]; exact presented), here, rule, ← hr,
    State.setObject_setObject]

end ExpireTimer

/-- The object after its timer ran out, and all that a hand-over of its change leaves. -/
theorem exec_objectTimerExpiry {s u w : State} {n : Nat} {e : Stamp} {d : Definition} {old : Presented}
    {r : ObjectRecord × Option Change} (timer : (s.object n).timer = some e) (reach : s.mayReach e)
    (service : (s.object n).service = .inService) (definition : (s.object n).definition = some d)
    (presented : (s.object n).presented = some old) (place : n < s.table.objects.length)
    (hr : r = resolveRecord n .timer e { s.object n with timer := none } d old (s.rule d old true))
    (hw : w = (s.at e).setObject n r.1) (silent : r.2 = none → u = w)
    (spoken : ∀ c, r.2 = some c → u = (w.handChange c).handToPress [c]) :
    exec (.objectTimerExpiry n) s = .next (State.finish (s.at e) u) ∧
      ((d.kind = .points → old.code = .moving) →
        r.1.sameState ((State.finish (s.at e) u).object n) ∧ ((State.finish (s.at e) u).object n).timer = none ∧
        (∀ m, m ≠ n → (s.object m).sameState ((State.finish (s.at e) u).object m)) ∧
        SameGround (s.at e) (State.finish (s.at e) u)) := by
  have expired : (s.at e).expireTimer n e = u := by
    rw [State.expireTimer_eq (s := s.at e) place service definition presented hr, ← hw]
    cases change : r.2 with
    | none => exact (State.handToPress_nil _).trans (silent change).symm
    | some c => exact (spoken c change).symm
  have run : exec (.objectTimerExpiry n) s = .next (State.finish (s.at e) u) := by
    have event := State.event_reached (act := fun d t => t.expireTimer n d) reach
    rw [expired, ← timer] at event
    exact congrArg Host.Outcome.next event
  refine ⟨run, fun moving => ?_⟩
  have kept : ∀ {P : State → Prop}, KeptByPress P → P w → P u := fun {P} K h => by
    cases change : r.2 with
    | none => exact (silent change) ▸ h
    | some c => exact (spoken c change) ▸ K.handToPress (K.handChange h)
  have stopped : r.1.timer = none := by
    rw [hr, resolveRecord_timer]
    exact nextTimer_of_stopped (State.rule_of_expired moving) _
  have self : w.object n = r.1 := hw ▸ State.object_setObject_self place
  have other : ∀ m, m ≠ n → w.object m = s.object m := fun m ne => hw ▸ State.object_setObject_ne (Ne.symm ne)
  have objects := (kept (sameObjects_kept w) (.refl w)).objects
  have slots : ∀ k, (u.slot k).isWatching = true → ((s.at e).slot k).isWatching = true := fun k watching => by
    have K := watchesNoMore_kept w
    have watched : (w.slot k).isWatching = true := by
      cases change : r.2 with
      | none => exact (silent change) ▸ watching
      | some c =>
        rw [spoken c change] at watching
        exact K.handToPress (K.handChange fun _ => id) k watching
    rw [hw] at watched
    exact watched
  have finished : State.finish (s.at e) u = u.chooseFrame := by
    refine State.finish_of_running (fun m e' running => .inr ?_) slots
    rw [(objects m).timer] at running
    by_cases own : m = n
    · rw [own, self, stopped] at running
      exact nomatch running
    · rw [other m own] at running
      exact running
  have chosen := u.chooseFrame_sameRelays
  have final : ∀ m, (w.object m).sameState (u.chooseFrame.object m) := fun m => (objects m).trans (chosen.objects m)
  rw [finished]
  refine ⟨self ▸ final n, ?_, fun m ne => other m ne ▸ final m, ?_⟩
  · rw [(final n).timer, self, stopped]
  · refine (sameGround_kept (s.at e)).chooseFrame (kept (sameGround_kept (s.at e)).toKeptByPress ?_)
    rw [hw]
    exact ⟨rfl, rfl, rfl, rfl, rfl, rfl, rfl, rfl, rfl, rfl⟩

theorem State.at_of_past {s : State} {e : Stamp} (past : e ≤ s.time) : s.at e = s := by
  rw [State.at, Nat.max_eq_left past]
  rfl

/-- Settles O34: the record is resolved once, and neither it nor the hand-over of its change starts a timer. -/
theorem objectTimerExpires : Obligations.ObjectTimerExpires := by
  refine ⟨fun s n e d old r w u timer reach service definition presented place hr hw silent spoken => ?_,
    fun before u => rfl, fun before u n => ⟨fun e => State.expireAtOnce_of_past, State.expireAtOnce_of_running⟩,
    fun s n e timer past => ?_⟩
  · obtain ⟨run, after⟩ :=
      exec_objectTimerExpiry timer reach service definition presented place hr hw silent spoken
    exact ⟨_, run, rfl, fun c change => resolveRecord_cause (hr ▸ change), after⟩
  · have event := State.event_reached (s := s) (d := e) (act := fun d t => t.expireTimer n d) (.inl past)
    rw [State.at_of_past past, ← timer] at event
    exact congrArg Host.Outcome.next event

end Sys2Proof.Machine
end

section
/-! PROOFS. Power, the load, the configuration store and the transmitter (R118, R155, R156, R162, R172 to R178). -/

namespace Sys2Proof.Machine

/-! ### Power (R175, R177) -/

/-- A line is closed by no blank press unit. -/
theorem State.lineClosed_blank_press {s : State} (h : s.press = .blank) (o : Nat) : s.lineClosed o = false ∧
    (s.output o).owner = none ∧ (s.output o).fault = none := by
  rw [State.lineClosed, State.output_blank_press h]
  exact ⟨rfl, rfl, rfl⟩

theorem State.contact_blank {s : State} (h : s.filter = .blank) (c : Nat) : s.accepted c = none ∧
    (s.contact c).candidate = none ∧ (s.contact c).chattering = false ∧ (s.contact c).chatterCount = 0 := by
  rw [State.accepted, State.contact_blank_filter h]
  exact ⟨rfl, rfl, rfl, rfl⟩

theorem State.lane_empty {s : State} (h : s.journal = .empty) (l : Lane) : s.lane l = [] := by
  cases l <;> simp only [State.lane, h] <;> rfl

/-- Nothing is pending on a part whose blocks are blank. -/
theorem State.pendingFlag_blank {s : State} (journal : s.journal = .empty) (table : s.table = .blank)
    (press : s.press = .blank) : s.pendingFlag = false := by
  simp [State.pendingFlag, State.pendingFor, journal, table, press, Journal.empty, ObjectTable.blank, PressUnit.blank,
    ObjectRecord.undefined, ObjectRecord.markedFor, Slot.endedFor]

/-- Settles O3: every block takes its power-on values. -/
theorem powerComesAndGoes : Obligations.PowerComesAndGoes := by
  refine ⟨fun straps s =>
    ⟨((s.blocksBlank.setTime 0).setStraps straps).setPower (.loading 0), rfl, rfl, rfl, rfl, rfl, rfl,
      rfl, State.lane_empty rfl, State.pendingFlag_blank rfl rfl rfl, fun c => ?_, fun n => ?_, rfl,
      State.lineClosed_blank_press rfl, State.slot_blank_press rfl, rfl, rfl, rfl, rfl, rfl, rfl⟩,
    fun s => ⟨s.blocksBlank.setPower .off, rfl, rfl, fun o => (State.lineClosed_blank_press rfl o).1, rfl, rfl,
      rfl, rfl, rfl, rfl⟩⟩
  · obtain ⟨accepted, candidate, chattering, -⟩ :=
      State.contact_blank (s := ((s.blocksBlank.setTime 0).setStraps straps).setPower (.loading 0)) rfl c
    exact ⟨accepted, candidate, chattering⟩
  · rw [State.object_blank_table rfl]
    exact ⟨rfl, rfl, rfl⟩

/-! ### The load (R177) -/

theorem loadedContents_of_valid {image : StoredImage} {c : ImageContents} (contents : image.contents = some c)
    (valid : image.valid = true) : loadedContents image false = c := by
  unfold loadedContents
  simp only [contents]
  simp [valid]

theorem loadedContents_of_not {image : StoredImage} {ignore : Bool} (h : image.valid = false ∨ ignore = true) :
    loadedContents image ignore = .standard := by
  unfold loadedContents
  split
  · refine if_neg fun ⟨valid, open'⟩ => ?_
    obtain invalid | closed := h
    · exact nomatch invalid.symm.trans valid
    · exact nomatch closed.symm.trans open'
  · rfl

theorem exec_startUpLoadComplete {s : State} {b : Stamp} (loading : s.power = .loading b) :
    exec .startUpLoadComplete s = .next s.completeLoad := by
  have run : exec .startUpLoadComplete s = execStartUpLoadComplete s := rfl
  rw [run]
  unfold execStartUpLoadComplete
  rw [loading]
  rfl

section Load

variable {s : State} {c : ImageContents} (loads : loadedContents s.store.image s.straps.storeIgnore = c)
include loads

/-- The load's effect on every block. -/
theorem State.completeLoad_eq : s.completeLoad = (s.judgeImage.applyContents c).setPower .operating := by
  rw [State.completeLoad, loads]

theorem State.completeLoad_object_of_some {n : Nat} {o : StoredObject} (stored : c.objects[n]? = some (some o)) :
    s.completeLoad.object n = loadObject (some o) := by
  rw [State.object_completeLoad, State.loads, loads, stored]
  rfl

theorem State.completeLoad_output {o : Nat} {x : Option StoredOutput} (stored : c.outputs[o]? = some x) :
    s.completeLoad.output o = loadOutput x := by
  rw [State.output_completeLoad, State.loads, loads, stored]
  rfl

end Load

/-- Where no object is stored the reverse index is empty. -/
theorem loadIndex_of_none {objects : List (Option StoredObject)} (none : ∀ x ∈ objects, x = none) :
    loadIndex objects = [] := by
  have steps : ∀ (xs : List (Nat × Option StoredObject)) (index : List IndexEntry), (∀ x ∈ xs, x.2 = Option.none) →
      xs.foldl loadIndexStep index = index := by
    intro xs
    induction xs with
    | nil => exact fun _ _ => rfl
    | cons x xs ih =>
      intro index empty
      have step : loadIndexStep index x = index := by
        simp [loadIndexStep, empty x List.mem_cons_self]
      rw [List.foldl_cons, step, ih index fun y mem => empty y (List.mem_cons_of_mem x mem)]
  exact steps _ _ fun x mem => none x.2 (List.of_mem_zip mem).2

/-- Settles O4: the contents that the load applies, and what each owner makes of them. -/
theorem loadAppliesTheConfiguration : Obligations.LoadAppliesTheConfiguration := by
  refine ⟨⟨rfl, rfl, rfl, rfl, fun c k => ⟨rfl, rfl, rfl, by simp [StoredImage.valid]⟩⟩,
    fun s b c loading strap contents valid => ?_, fun s b loading defaults => ?_⟩
  · have loads : loadedContents s.store.image s.straps.storeIgnore = c := by
      rw [strap]
      exact loadedContents_of_valid contents valid
    have applied := State.completeLoad_eq loads
    refine ⟨s.completeLoad, exec_startUpLoadComplete loading, ?_⟩
    have index : s.completeLoad.table.index = loadIndex c.objects := by rw [applied]; rfl
    refine ⟨rfl, rfl, rfl, rfl, valid, rfl, rfl, by rw [applied]; rfl, by rw [applied]; rfl, rfl, rfl, rfl,
      by rw [applied]; rfl, fun empty => ?_, fun some => ?_, by rw [applied]; rfl, by rw [applied]; rfl, fun n => ?_,
      fun n d stored => ⟨State.completeLoad_object_of_some loads stored, fun r hr => ?_⟩,
      fun n d stored => State.completeLoad_object_of_some loads stored, fun n none => ?_,
      fun o x stored => State.completeLoad_output loads stored, fun o none => State.completeLoad_output loads none, rfl⟩
    · rw [applied]
      exact ⟨if_pos (by simp [empty]), if_pos (by simp [empty])⟩
    · rw [applied]
      exact ⟨if_neg (by simpa using some), if_neg (by simpa using some)⟩
    · rw [applied]
      exact List.getElem?_map
    · rw [index]
      exact mem_loadIndex stored rfl hr
    · rw [State.object_completeLoad, State.loads, loads, none]
      rfl
  · have loads : loadedContents s.store.image s.straps.storeIgnore = .standard := loadedContents_of_not defaults
    have applied := State.completeLoad_eq loads
    refine ⟨s.completeLoad, exec_startUpLoadComplete loading, rfl, rfl, rfl, rfl, by rw [applied]; rfl, fun p hp => ?_,
      fun c hc => ?_, fun p hp => ?_, fun n hn => ?_, ?_, fun o ho => ?_, rfl, rfl⟩
    all_goals rw [applied]
    · exact List.getElem?_replicate_of_lt hp
    · exact (List.getElem?_map ..).trans (congrArg _ (List.getElem?_replicate_of_lt hc))
    · exact List.getElem?_replicate_of_lt hp
    · exact (List.getElem?_map ..).trans (congrArg _ (List.getElem?_replicate_of_lt hn))
    · have index : ∀ c, ((s.judgeImage.applyContents c).setPower .operating).table.index = loadIndex c.objects :=
        fun _ => rfl
      have objects : ImageContents.standard.objects = List.replicate Config.objects none := rfl
      rw [index, objects]
      exact loadIndex_of_none fun x mem => List.eq_of_mem_replicate mem
    · exact (List.getElem?_map ..).trans (congrArg _ (List.getElem?_replicate_of_lt ho))

/-! ### The configuration store (R172 to R178) -/

theorem State.busy_iff (s : State) : s.busy = true ↔ s.store.state = .busy := decide_eq_true_iff

section Save

variable {s : State} {c : ImageContents} {since : Stamp}

theorem exec_saveWritingEnd (writing : s.store.save = some ⟨c, .writing since⟩) (memory : Option StoredImage) :
    exec (.saveWritingEnd memory) s =
      .next (s.setStore { s.store with image := memory.getD (.intact c), save := some ⟨c, .readBack s.time⟩ }) := by
  have run : exec (.saveWritingEnd memory) s = execSaveWritingEnd memory s := rfl
  rw [run]
  unfold execSaveWritingEnd
  rw [writing]
  rfl

theorem exec_saveCompletion (reading : s.store.save = some ⟨c, .readBack since⟩) :
    exec .saveCompletion s = .next (s.completeSave c) := by
  have run : exec .saveCompletion s = execSaveCompletion s := rfl
  rw [run]
  unfold execSaveCompletion
  rw [reading]
  rfl

/-- What is read back equals the snapshot in contents and checksum (R175). -/
theorem StoredImage.equals_iff (i : StoredImage) (c : ImageContents) :
    i.equals c = true ↔ i = .intact c ∨ i = .other c (imageCheck c) := by
  cases i with
  | neverWritten => simp [StoredImage.equals]
  | erased => simp [StoredImage.equals]
  | intact d => simp [StoredImage.equals]
  | other d k =>
    simp only [StoredImage.equals, Bool.and_eq_true, decide_eq_true_eq, reduceCtorEq, false_or, StoredImage.other.injEq]

end Save

/-- Settles O53: the four commands of the store, and the checksum over the items in their order. -/
theorem definitionsAreSaved : Obligations.DefinitionsAreSaved := by
  refine ⟨fun c => by simp only [imageCheck, imageOctets, List.append_assoc], fun s tag => ⟨s.busy_iff,
    fun serves => ⟨fun busy => ⟨?_, ?_⟩, fun free => ⟨?_, s.snapshot, ?_, rfl, rfl, rfl, rfl, rfl, rfl, ?_, ?_⟩⟩,
    fun c since writing => ⟨exec_saveWritingEnd writing none, fun m => exec_saveWritingEnd writing (some m)⟩,
    fun c since reading => ⟨fun same => ?_, fun notIntact notOther => ?_⟩⟩⟩
  · exact exec_unchanged serves rfl (by simp [serveRequest, serveSave, busy, refusal])
  · exact exec_unchanged serves rfl (by simp [serveRequest, serveRestart, busy, refusal])
  · exact exec_okWith (t := s.beginRestart) serves rfl (by simp [serveRequest, serveRestart, free])
      (fun _ => rfl) (fun _ => id)
  · exact exec_okWith (t := s.beginSave) serves rfl (by simp [serveRequest, serveSave, free]) (fun _ => rfl) fun _ => id
  · intro n place d
    have stored : s.snapshot.objects[n]? = some (s.object n).stored := by
      rw [State.object_eq_getElem place]
      simp [State.snapshot, List.getElem?_map, List.getElem?_eq_getElem place]
    rw [stored]
    refine ⟨fun service => ?_, fun service definition => ?_, fun service definition => ?_⟩
    · simp [ObjectRecord.stored, service]
    · simp [ObjectRecord.stored, service, definition]
    · simp [ObjectRecord.stored, service, definition]
  · intro o place
    have here : s.output o = s.press.outputs[o] := by
      rw [State.output, List.getD_eq_getElem?_getD, List.getElem?_eq_getElem place]
      rfl
    simp [State.snapshot, List.getElem?_map, List.getElem?_eq_getElem place, OutputRecord.stored, here]
  · rw [exec_saveCompletion reading]
    exact congrArg Host.Outcome.next (if_pos ((StoredImage.equals_iff _ _).mpr same))
  · rw [exec_saveCompletion reading]
    exact congrArg Host.Outcome.next (if_neg fun e => ((StoredImage.equals_iff _ _).mp e).elim notIntact notOther)

/-! ### The transmitter (R155, R156) -/

/-- A refill does not look at the link. -/
theorem State.appendPending_setLink (s : State) (x : Link) (l : Lane) (p : PendingItem) :
    (s.setLink x).appendPending l p = (s.appendPending l p).setLink x := by
  cases p with
  | module slot =>
    have same : (s.setLink x).journal = s.journal := rfl
    unfold State.appendPending
    dsimp only
    rw [same]
    split <;> rfl
  | output o =>
    have same : (s.setLink x).journal = s.journal := rfl
    unfold State.appendPending
    dsimp only
    rw [same]
    split <;> rfl
  | pressEnd k =>
    unfold State.appendPending
    dsimp only
    rw [State.slot_setLink]
    split <;> rfl
  | object n => rfl

theorem State.refill_setLink (s : State) (x : Link) (l : Lane) : (s.setLink x).refill l = (s.refill l).setLink x := by
  unfold State.refill
  have lane : (s.setLink x).lane l = s.lane l := rfl
  rw [lane]
  generalize l.places - (s.lane l).length = n
  induction n generalizing s with
  | zero => rfl
  | succ n ih =>
    have first : (s.setLink x).firstPending l = s.firstPending l := rfl
    unfold State.refillUpTo
    rw [first]
    split
    · rfl
    · rw [State.appendPending_setLink, ih _ rfl]

/-- The summary does not look at the transmitter. -/
theorem State.summary_setSending (s : State) (f : Option Frame) : (s.setSending f).summary = s.summary := rfl

/-- A REPORT of a lane, whose summary is formed after the refill (R111, R156). -/
theorem State.startReport_eq (s : State) (l : Lane) (f : Option Frame) : (s.setSending f).startReport l =
    ((s.dropRecords l 8).refill l).setLink { s.link with
      dropped := false
      sending := some ⟨0xF0#8, 0x00#8, ((s.dropRecords l 8).refill l).summary
        ++ ((s.lane l).take 8).flatMap Record.octets⟩ } := by
  have refilled : ((s.setSending f).dropRecords l 8).refill l =
      ((s.dropRecords l 8).refill l).setSending f := by
    have link : ((s.dropRecords l 8).refill l).link = s.link := (s.dropRecords l 8).refill_link l
    have before : (s.setSending f).dropRecords l 8 = (s.dropRecords l 8).setLink { s.link with sending := f } := rfl
    rw [before, State.refill_setLink, State.setSending, link]
  have link : ((s.dropRecords l 8).refill l).link = s.link := (s.dropRecords l 8).refill_link l
  unfold State.startReport
  have frames : Config.recordsPerFrame = 8 := rfl
  dsimp only
  rw [frames, refilled, State.summary_setSending]
  simp only [State.clearDropped, State.setSending, State.setLink, link]
  rfl

section FrameSent

variable {s : State} {sent : Frame} (sending : s.link.sending = some sent)
include sending

theorem exec_frameSent : exec .frameSent s = .next s.frameSent :=
  congrArg Host.Outcome.next (if_pos (Option.isSome_iff_exists.mpr ⟨sent, sending⟩))

omit sending in
theorem State.frameSent_of_reply {f : Frame} {fs : List Frame} (replies : s.link.replies = f :: fs) :
    s.frameSent = s.setLink { s.link with replies := fs, sending := some f } := by
  have more : ¬ (s.link.restarting = true ∧ s.link.replies.isEmpty = true) := by simp [replies]
  unfold State.frameSent
  dsimp only
  rw [if_neg more, State.chooseFrame, if_neg (by simp [State.setSending])]
  have same : (s.setSending none).link.replies = f :: fs := replies
  rw [same]
  rfl

omit sending in
theorem State.frameSent_of_restart (empty : s.link.replies = []) (restarting : s.link.restarting = true) :
    s.frameSent = (s.setSending none).reinitialise := by
  unfold State.frameSent
  exact if_pos ⟨restarting, by simp [empty]⟩

omit sending in
theorem State.frameSent_of_going (going : s.link.restarting = false) : s.frameSent =
    (s.setSending none).chooseFrame := by
  unfold State.frameSent
  exact if_neg (by simp [going])

omit sending in
/-- A free transmitter without replies takes a REPORT, or nothing. -/
theorem State.chooseFrame_of_free (empty : s.link.replies = []) (going : s.link.restarting = false) :
    (s.setSending none).chooseFrame =
      if s.link.mode = .stream ∧ s.lane .urgent ≠ [] then (s.setSending none).startReport .urgent
      else if s.link.mode = .stream ∧ s.link.hold = false ∧ s.lane .routine ≠ [] then
        (s.setSending none).startReport .routine
      else s.setSending none := by
  have same : (s.setSending none).link.replies = [] := empty
  have mode : (s.setSending none).link.mode = s.link.mode := rfl
  have restarting : (s.setSending none).link.restarting = false := going
  have hold : (s.setSending none).link.hold = s.link.hold := rfl
  have lane : ∀ l, (s.setSending none).lane l = s.lane l := fun _ => rfl
  rw [State.chooseFrame, if_neg (by simp [State.setSending]), same, mode, restarting, hold, lane, lane]
  by_cases stream : s.link.mode = .stream
  · cases urgent : s.lane .urgent with
    | cons r rs => simp [stream]
    | nil => simp [stream, List.isEmpty_eq_false_iff]
  · simp [stream]

end FrameSent

/-- Settles O50: the transmitter that a sent frame frees, and the one that is taken. -/
theorem frameSentIsFollowed : Obligations.FrameSentIsFollowed := by
  intro s sent sending
  rw [exec_frameSent sending]
  refine ⟨fun f fs replies => congrArg Host.Outcome.next (State.frameSent_of_reply replies), fun empty restarting => ?_,
    fun empty going => ⟨fun l stream some next u hu => ?_, fun quiet => ?_, ?_⟩,
    State.chooseFrame_of_sending (Option.isSome_iff_exists.mpr ⟨sent, sending⟩)⟩
  · refine ⟨_, congrArg Host.Outcome.next (State.frameSent_of_restart empty restarting), rfl, rfl, rfl, rfl, rfl, rfl,
      State.lane_empty rfl, State.pendingFlag_blank rfl rfl rfl, rfl, fun c => ?_, State.lineClosed_blank_press rfl,
      State.slot_blank_press rfl, rfl, rfl, rfl, rfl, rfl⟩
    obtain ⟨accepted, candidate, -, count⟩ := State.contact_blank (s := (s.setSending none).reinitialise) rfl c
    exact ⟨accepted, candidate, count⟩
  · rw [State.frameSent_of_going going, State.chooseFrame_of_free empty going]
    subst hu
    rw [← State.startReport_eq s l none]
    cases l with
    | urgent => rw [if_pos ⟨stream, some⟩]
    | routine =>
      obtain ⟨none, hold⟩ := next rfl
      rw [if_neg (by simp [none]), if_pos ⟨stream, hold, some⟩]
  · rw [State.frameSent_of_going going, State.chooseFrame_of_free empty going, if_neg, if_neg]
    · rfl
    · rintro ⟨stream, open', some⟩
      obtain other | ⟨-, hold | none⟩ := quiet
      · exact other stream
      · exact nomatch open'.symm.trans hold
      · exact some none
    · rintro ⟨stream, some⟩
      obtain other | ⟨none, -⟩ := quiet
      · exact other stream
      · exact some none
  · rw [State.frameSent_of_going going]
    rfl

end Sys2Proof.Machine
end

section
/-! PROOFS. What a module's read does to it (R9 to R12). -/

namespace Sys2Proof.Machine

theorem fillLatch_eq (latch : Option ModuleLatch) (cause : FailureCause) (s : Stamp) :
    fillLatch latch cause s = some (latch.getD ⟨cause, s⟩) := by
  cases latch <;> rfl

theorem answerOf_of_found {reads : List ModuleRead} {slot : Nat} {r : ModuleRead}
    (found : reads.find? (fun x => x.slot = slot) = some r) : answerOf reads slot = r.answer := by
  unfold answerOf
  simp only [found]

theorem answerOf_of_silent {reads : List ModuleRead} {slot : Nat} (silent : ∀ r ∈ reads, r.slot ≠ slot) :
    answerOf reads slot = .nothing := by
  have none : reads.find? (fun x => x.slot = slot) = none :=
    List.find?_eq_none.mpr fun r mem => by simpa using silent r mem
  unfold answerOf
  simp only [none]

theorem classifyRead_of_size {code : TypeCode} {size : Nat} (h : code.size = some size) (inputs : BitVec 64) :
    classifyRead size (.answer code inputs) = .good inputs := if_pos h

theorem classifyRead_of_ne {code : TypeCode} {size : Nat} (h : code.size ≠ some size) (inputs : BitVec 64) :
    classifyRead size (.answer code inputs) = .bad .wrongType := if_neg h

section Complete

variable {tol : Nat} {scan : Scan} {reads : List ModuleRead} {m : ModuleRecord}

theorem completeModule_of_unread (h : m.slot ∉ scan.slots ∨ m.slot ∈ scan.discarded) :
    completeModule tol scan reads m = unread m :=
  if_neg fun ⟨read, kept⟩ => h.elim (fun no => no read) kept

theorem completeModule_of_good {inputs : BitVec 64} (read : m.slot ∈ scan.slots) (kept : m.slot ∉ scan.discarded)
    (good : classifyRead m.size (answerOf reads m.slot) = .good inputs) :
    completeModule tol scan reads m = goodRead tol scan.sampleTime m inputs := by
  unfold completeModule
  rw [if_pos ⟨read, kept⟩, good]
  rfl

theorem completeModule_of_bad {cause : FailureCause} (read : m.slot ∈ scan.slots) (kept : m.slot ∉ scan.discarded)
    (bad : classifyRead m.size (answerOf reads m.slot) = .bad cause) :
    completeModule tol scan reads m = badRead scan.sampleTime m cause := by
  unfold completeModule
  rw [if_pos ⟨read, kept⟩, bad]
  rfl

/-- A module out of service is left as it is, whatever came back. -/
theorem applyRead_of_out (out : m.state = .outOfService) (r : ReadResult) (s : Stamp) :
    applyRead tol s m r = unread m := by
  cases r with
  | good inputs => simp [applyRead, goodRead, out]
  | bad cause => simp [applyRead, badRead, out]

theorem completeModule_of_out (out : m.state = .outOfService) : completeModule tol scan reads m = unread m := by
  unfold completeModule
  split
  · exact applyRead_of_out out _ _
  · rfl

end Complete

section Reads

variable {tol : Nat} {s : Stamp} {m : ModuleRecord}

theorem goodRead_of_inService (h : m.state = .inService) (inputs : BitVec 64) : goodRead tol s m inputs =
    ⟨{ m with faultCounter := tol, suspect := false }, none, some inputs, false⟩ := by
  simp [goodRead, h]

theorem goodRead_of_failed (h : m.state = .failed) (inputs : BitVec 64) : goodRead tol s m inputs =
    ⟨{ m with state := .recovering, recovery := 1, origin := .failed }, some ⟨m.slot, .recovering, none, s⟩, none,
      false⟩ := by
  simp [goodRead, h]

/-- The eighth good read in a row ends the recovery (R12). -/
theorem goodRead_of_recovering (h : m.state = .recovering) (inputs : BitVec 64) : goodRead tol s m inputs =
    if m.recovery < 7 then ⟨{ m with recovery := m.recovery + 1 }, none, none, false⟩
    else ⟨{ m with state := .inService, faultCounter := tol, suspect := false, recovery := 0 },
      some ⟨m.slot, .inService, none, s⟩, some inputs, false⟩ := by
  have reads : m.recovery + 1 < Config.recoveryReads ↔ m.recovery < 7 := Nat.succ_lt_succ_iff
  unfold goodRead
  simp only [h]
  by_cases few : m.recovery < 7
  · rw [if_pos few, if_pos (reads.mpr few)]
  · rw [if_neg few, if_neg (mt reads.mp few)]

variable {cause : FailureCause}

theorem badRead_of_inService (h : m.state = .inService) : badRead s m cause =
    if m.faultCounter = 0 then
      ⟨{ m with state := .failed, suspect := false, latch := some (m.latch.getD ⟨cause, s⟩) },
        some ⟨m.slot, .failed, some cause, s⟩, none, true⟩
    else ⟨{ m with faultCounter := m.faultCounter - 1, suspect := true }, none, none, false⟩ := by
  simp only [badRead, h, fillLatch_eq]

theorem badRead_of_failed (h : m.state = .failed) : badRead s m cause = unread m := by
  simp [badRead, h]

theorem badRead_of_recovering (h : m.state = .recovering) : badRead s m cause =
    if m.origin = .fresh then ⟨{ m with recovery := 0 }, none, none, false⟩
    else ⟨{ m with state := .failed, recovery := 0, latch := some (m.latch.getD ⟨cause, s⟩) },
      some ⟨m.slot, .failed, some cause, s⟩, none, false⟩ := by
  cases origin : m.origin <;> simp [badRead, h, origin, fillLatch_eq]

end Reads

/-- Settles O8: the classification, and one equation for each state of the module and each result. -/
theorem moduleReadsAreApplied : Obligations.ModuleReadsAreApplied := by
  refine ⟨fun size sized => ⟨rfl, rfl, fun inputs => classifyRead_of_ne (by simp [TypeCode.size]) inputs,
      fun code inputs n named ne => classifyRead_of_ne (fun e => ne (Option.some.inj (named.symm.trans e))) inputs,
      fun code inputs named => classifyRead_of_size named inputs⟩,
    fun tol scan reads m read => ⟨fun discarded => completeModule_of_unread (.inr discarded),
      fun kept => ⟨fun inputs good => ?_, fun cause bad => ?_⟩⟩,
    fun tol scan reads m out => out.elim (fun no => completeModule_of_unread (.inl no)) completeModule_of_out,
    fun reads slot => ⟨fun r => answerOf_of_found, answerOf_of_silent⟩⟩
  · rw [completeModule_of_good read kept good]
    refine ⟨fun h => goodRead_of_inService h inputs, fun h => goodRead_of_failed h inputs, fun h few => ?_,
      fun h last => ?_⟩
    · rw [goodRead_of_recovering h, if_pos few]
    · rw [goodRead_of_recovering h, if_neg (by omega)]
  · rw [completeModule_of_bad read kept bad]
    refine ⟨fun h some => ?_, fun h none => ?_, badRead_of_failed, fun h fresh => ?_, fun h failed => ?_⟩
    · rw [badRead_of_inService h, if_neg some]
    · rw [badRead_of_inService h, if_pos none]
    · rw [badRead_of_recovering h, if_pos fresh]
    · rw [badRead_of_recovering h, if_neg (by simp [failed])]

end Sys2Proof.Machine
end

section
/-! PROOFS. What the fields of DEFINE-OBJECT and of check items name (R52, R54, R57, R96, R97, R167), and the records
that DEFINE-OBJECT and REMOVE-OBJECT write (R58, R59). -/

namespace Sys2Proof.Machine

/-! ### Codes -/

theorem roleOf_eq_some_iff (n : Nat) (r : Role) : roleOf n = some r ↔ n = r.code := by
  constructor
  · intro h
    unfold roleOf at h
    split at h <;> cases h <;> rfl
  · rintro rfl
    cases r <;> rfl

theorem kindOf_eq_some_iff (n : Nat) (k : Kind) : kindOf n = some k ↔ n = k.code := by
  constructor
  · intro h
    unfold kindOf at h
    split at h <;> cases h <;> rfl
  · rintro rfl
    cases k <;> rfl

theorem urgencyOf_eq_some_iff (n : Nat) (u : Urgency) : urgencyOf n = some u ↔ n = u.code := by
  constructor
  · intro h
    unfold urgencyOf at h
    split at h <;> cases h <;> rfl
  · rintro rfl
    cases u <;> rfl

theorem stateCodeOf_eq_some_iff (n : Nat) (c : StateCode) : stateCodeOf n = some c ↔ n = c.code := by
  constructor
  · intro h
    unfold stateCodeOf at h
    split at h <;> cases h <;> rfl
  · rintro rfl
    cases c <;> rfl

theorem flagOf_eq_some_iff (n : Nat) (b : Bool) : flagOf n = some b ↔ n = if b then 1 else 0 := by
  constructor
  · intro h
    unfold flagOf at h
    split at h <;> cases h <;> rfl
  · rintro rfl
    cases b <;> rfl

theorem flashReqOf_eq_some_iff (n : Nat) (r : FlashReq) : flashReqOf n = some r ↔
    (n = 0 ∧ r = .steady) ∨ (n = 1 ∧ r = .flashing) ∨ (n = 2 ∧ r = .either) := by
  constructor
  · intro h
    unfold flashReqOf at h
    split at h <;> cases h <;> simp
  · rintro (⟨rfl, rfl⟩ | ⟨rfl, rfl⟩ | ⟨rfl, rfl⟩) <;> rfl

/-! ### References -/

theorem readReference_eq_some_iff (f : ReferenceField) (r : Reference) :
    readReference f = some r ↔ ReferenceField.names f r := by
  have range : f.contact < Config.contacts ↔ f.contact ≤ 2047 := Nat.lt_succ_iff
  obtain ⟨contact, role, invert⟩ := f
  obtain ⟨contact', role', inverted⟩ := r
  constructor
  · intro h
    unfold readReference at h
    split at h
    next x b hx hb =>
      split at h
      next low =>
        cases Option.some.inj h
        exact ⟨rfl, (roleOf_eq_some_iff _ _).mp hx, (flagOf_eq_some_iff _ _).mp hb, range.mp low⟩
      · exact nomatch h
    · exact nomatch h
  · rintro ⟨rfl, code, flag, low⟩
    unfold readReference
    simp only [(roleOf_eq_some_iff _ _).mpr code, (flagOf_eq_some_iff _ _).mpr flag]
    exact if_pos (range.mpr low)

/-- A list is read exactly when each of its fields is. -/
theorem readReferences_eq_some_iff (fs : List ReferenceField) (rs : List Reference) :
    readReferences fs = some rs ↔ List.Forall₂ ReferenceField.names fs rs := by
  induction fs generalizing rs with
  | nil =>
    rw [List.forall₂_nil_left_iff]
    exact ⟨fun h => (Option.some.inj h).symm, fun h => congrArg some h.symm⟩
  | cons f fs ih =>
    rw [List.forall₂_cons_left_iff]
    constructor
    · intro h
      unfold readReferences at h
      split at h
      next r xs hr hxs =>
        exact ⟨r, xs, (readReference_eq_some_iff f r).mp hr, (ih xs).mp hxs, (Option.some.inj h).symm⟩
      · exact nomatch h
    · rintro ⟨r, xs, hr, hxs, rfl⟩
      unfold readReferences
      simp only [(readReference_eq_some_iff f r).mpr hr, (ih xs).mpr hxs]

theorem refsFit_iff (k : Kind) (rs : List Reference) : refsFit k rs = true ↔ SoundReferences k rs := by
  unfold refsFit
  simp only [Bool.and_eq_true, decide_eq_true_eq, List.all_eq_true, List.mem_append]
  constructor
  · rintro ⟨⟨⟨⟨⟨some, few⟩, roles⟩, once⟩, contacts⟩, required⟩
    exact ⟨fun e => some (by simp [e]), few, roles, once, required, contacts⟩
  · intro h
    exact ⟨⟨⟨⟨⟨by simpa using h.some, h.few⟩, h.roles⟩, h.once⟩, h.contacts⟩, h.required⟩

theorem clampTiming_eq (k : Kind) (v : Nat) : clampTiming k v = timingTaken k v := by
  cases k <;> simp only [clampTiming, timingTaken, roundDown]
  all_goals rw [clamp_eq_min_max (by omega)]
  all_goals rw [Nat.max_eq_left (Nat.zero_le _)]

section ReadDefinition

variable {kind urgency timing : Nat} {refs : List ReferenceField}

theorem readDefinition_of_names {k : Kind} {u : Urgency} {rs : List Reference} (hk : kind = k.code)
    (hu : urgency = u.code) (names : List.Forall₂ ReferenceField.names refs rs) (sound : SoundReferences k rs) :
    readDefinition kind urgency timing refs = some ⟨k, rs, timingTaken k timing, u⟩ := by
  unfold readDefinition
  simp only [(kindOf_eq_some_iff kind k).mpr hk, (urgencyOf_eq_some_iff urgency u).mpr hu,
    (readReferences_eq_some_iff refs rs).mpr names, (refsFit_iff k rs).mpr sound, clampTiming_eq]
  rfl

theorem readDefinition_eq_none (none : ¬ ∃ (k : Kind) (u : Urgency) (rs : List Reference), kind = k.code ∧
    urgency = u.code ∧ List.Forall₂ ReferenceField.names refs rs ∧ SoundReferences k rs) :
    readDefinition kind urgency timing refs = Option.none := by
  unfold readDefinition
  split
  next k u rs hk hu names =>
    refine if_neg fun fit => none ⟨k, u, rs, (kindOf_eq_some_iff kind k).mp hk, (urgencyOf_eq_some_iff urgency u).mp hu,
      (readReferences_eq_some_iff refs rs).mp names, (refsFit_iff k rs).mp fit⟩
  · rfl

end ReadDefinition

/-! ### Check items (R96, R97) -/

theorem optionalOctet_cases (n : Nat) : (n = 0xFF ∧ optionalOctet n = none) ∨
    (n ≠ 0xFF ∧ optionalOctet n = some n) := by
  by_cases e : n = 0xFF
  · exact .inl ⟨e, if_pos e⟩
  · exact .inr ⟨e, if_neg e⟩

theorem belowOrAbsent_optionalOctet {bound : Nat} (n : Nat) :
    belowOrAbsent bound (optionalOctet n) = true ↔ n = 0xFF ∨ n < bound := by
  obtain ⟨e, h⟩ | ⟨e, h⟩ := optionalOctet_cases n
  · rw [h]
    exact ⟨fun _ => .inl e, fun _ => rfl⟩
  · rw [h]
    simp [belowOrAbsent, e]

theorem readCheckItem_eq_some_iff (f : CheckItemField) (i : CheckItem) :
    readCheckItem f = some i ↔ CheckItemField.names f i := by
  have range : f.object < Config.objects ↔ f.object ≤ 511 := Nat.lt_succ_iff
  constructor
  · intro h
    unfold readCheckItem at h
    split at h
    next code req hcode hreq =>
      split at h
      next fits =>
        obtain ⟨low, aspect⟩ := fits
        cases Option.some.inj h
        refine ⟨⟨rfl, range.mp low⟩, (stateCodeOf_eq_some_iff _ _).mp hcode, ?_, (flashReqOf_eq_some_iff _ _).mp hreq⟩
        rw [belowOrAbsent_optionalOctet] at aspect
        obtain ⟨e, none⟩ | ⟨e, some⟩ := optionalOctet_cases f.aspect
        · exact .inl ⟨e, none⟩
        · exact .inr ⟨Nat.le_of_lt_succ (aspect.resolve_left e), some⟩
      · exact nomatch h
    · exact nomatch h
  · rintro ⟨⟨object, low⟩, code, aspect, flashing⟩
    have taken : optionalOctet f.aspect = i.aspect ∧ belowOrAbsent 4 (optionalOctet f.aspect) = true := by
      obtain ⟨e, none⟩ | ⟨few, some⟩ := aspect
      · exact ⟨(if_pos e).trans none.symm, (belowOrAbsent_optionalOctet _).mpr (.inl e)⟩
      · exact ⟨(if_neg (by omega)).trans some.symm, (belowOrAbsent_optionalOctet _).mpr (.inr (by omega))⟩
    unfold readCheckItem
    simp only [(stateCodeOf_eq_some_iff _ _).mpr code, (flashReqOf_eq_some_iff _ _).mpr flashing]
    rw [if_pos ⟨range.mpr low, taken.2⟩, taken.1, ← object]

theorem readCheckItems_eq_some_iff (fs : List CheckItemField) (items : List CheckItem) :
    readCheckItems fs = some items ↔ List.Forall₂ CheckItemField.names fs items := by
  induction fs generalizing items with
  | nil =>
    rw [List.forall₂_nil_left_iff]
    exact ⟨fun h => (Option.some.inj h).symm, fun h => congrArg some h.symm⟩
  | cons f fs ih =>
    rw [List.forall₂_cons_left_iff]
    constructor
    · intro h
      unfold readCheckItems at h
      split at h
      next i is hi his =>
        exact ⟨i, is, (readCheckItem_eq_some_iff f i).mp hi, (ih is).mp his, (Option.some.inj h).symm⟩
      · exact nomatch h
    · rintro ⟨i, is, hi, his, rfl⟩
      unfold readCheckItems
      simp only [(readCheckItem_eq_some_iff f i).mpr hi, (ih is).mpr his]

/-- The fields that name an item (R97). -/
theorem CheckItemField.names_iff (f : CheckItemField) : (∃ i, CheckItemField.names f i) ↔ f.object ≤ 511 ∧
    (∃ code : StateCode, f.code = code.code) ∧ (f.aspect ≤ 3 ∨ f.aspect = 0xFF) ∧ f.flashing ≤ 2 := by
  constructor
  · rintro ⟨i, ⟨-, low⟩, code, aspect, flashing⟩
    refine ⟨low, ⟨i.code, code⟩, aspect.symm.imp (·.1) (·.1), ?_⟩
    obtain ⟨e, -⟩ | ⟨e, -⟩ | ⟨e, -⟩ := flashing <;> omega
  · rintro ⟨low, ⟨code, hcode⟩, aspect, flashing⟩
    obtain ⟨req, hreq⟩ : ∃ req, flashReqOf f.flashing = some req := by
      interval_cases f.flashing <;> exact ⟨_, rfl⟩
    refine ⟨⟨f.object, code, optionalOctet f.aspect, req⟩, ⟨rfl, low⟩, hcode, ?_, (flashReqOf_eq_some_iff _ _).mp hreq⟩
    obtain few | e := aspect
    · exact .inr ⟨few, if_neg (by omega)⟩
    · exact .inl ⟨e, if_pos e⟩

theorem readCheckItems_ne_none_iff (fs : List CheckItemField) : readCheckItems fs ≠ none ↔ ∀ f ∈ fs, f.object ≤ 511 ∧
    (∃ code : StateCode, f.code = code.code) ∧ (f.aspect ≤ 3 ∨ f.aspect = 0xFF) ∧ f.flashing ≤ 2 := by
  simp only [← CheckItemField.names_iff, Option.ne_none_iff_exists', readCheckItems_eq_some_iff]
  induction fs with
  | nil => simp
  | cons f fs ih =>
    rw [List.forall_mem_cons, ← ih]
    constructor
    · rintro ⟨items, names⟩
      obtain ⟨i, is, one, rest, rfl⟩ := List.forall₂_cons_left_iff.mp names
      exact ⟨⟨i, one⟩, is, rest⟩
    · rintro ⟨⟨i, one⟩, is, rest⟩
      exact ⟨i :: is, .cons one rest⟩

/-! ### Answers that end timers -/

theorem objects_le_iff (n : Nat) : Config.objects ≤ n ↔ 511 < n := Iff.rfl

/-- A request that its owner serves OK, and whose timers are old ones or are not due yet. -/
theorem exec_okWith_running {s t : State} {i : Instr} {kind tag reply : Octet} {body fields : List Octet} (h : s.serves)
    (frame : encodeRequest i = some ⟨kind, tag, body⟩) (served : serveRequest i s = (t, okWith fields))
    (timers : ∀ n e, (t.object n).timer = some e → t.time < e ∨ (s.object n).timer = some e)
    (slots : ∀ k, (t.slot k).isWatching = true → (s.slot k).isWatching = true)
    (known : kind ≠ kindDiscarded := by decide) (replies : replyKind kind = reply := by decide) :
    exec i s = .next (t.afterReply reply tag .ok fields) := by
  rw [exec_okWith_finish h frame served known replies,
    State.finish_of_running (t := t.afterReply reply tag .ok fields) timers slots]
  exact congrArg Host.Outcome.next (State.chooseFrame_of_sending (Link.answered_sending _ _))

theorem State.setObject_timers {s : State} {n : Nat} {o : ObjectRecord} (stopped : o.timer = none) (m : Nat) (e : Stamp)
    (running : ((s.setObject n o).object m).timer = some e) : (s.object m).timer = some e := by
  rw [State.object_setObject] at running
  split at running
  · exact nomatch stopped.symm.trans running
  · exact running

/-- Settles O25: the fields are read as what they name, and the record is written as a whole. -/
theorem definitionsAreWritten : Obligations.DefinitionsAreWritten := by
  refine ⟨fun s tag n kind urgency timing refs serves =>
    ⟨fun busy => ?_, fun free high => ?_, fun free low service => ?_,
      fun free low service => ⟨fun none => ?_, fun k u rs hk hu names sound => ?_⟩⟩,
    fun s tag n serves => ⟨fun busy => ?_, fun free high => ?_, fun free low service => ?_, fun free low service => ?_⟩⟩
  · exact exec_unchanged serves rfl (by simp [serveRequest, serveDefineObject, busy, refusal])
  · exact exec_unchanged serves rfl (by simp [serveRequest, serveDefineObject, free, objects_le_iff, high, refusal])
  · exact exec_unchanged serves rfl
      (by simp [serveRequest, serveDefineObject, free, objects_le_iff, Nat.not_lt_of_le low, service, refusal])
  · exact exec_unchanged serves rfl
      (by simp [serveRequest, serveDefineObject, free, objects_le_iff, Nat.not_lt_of_le low,
      service, refusal, readDefinition_eq_none none])
  · refine exec_okWith_running (t := s.setObject n (Definition.record ⟨k, rs, timingTaken k timing, u⟩)) serves rfl ?_
      (fun m e running => .inr (State.setObject_timers rfl m e running)) fun _ => id
    simp [serveRequest, serveDefineObject, free, objects_le_iff, Nat.not_lt_of_le low, service,
      readDefinition_of_names hk hu names sound]
  · exact exec_unchanged serves rfl (by simp [serveRequest, serveRemoveObject, busy, refusal])
  · exact exec_unchanged serves rfl (by simp [serveRequest, serveRemoveObject, free, objects_le_iff, high, refusal])
  · exact exec_unchanged serves rfl
      (by simp [serveRequest, serveRemoveObject, free, objects_le_iff, Nat.not_lt_of_le low, service, refusal])
  · refine exec_okWith_running (t := s.setObject n .undefined) serves rfl ?_
      (fun m e running => .inr (State.setObject_timers rfl m e running)) fun _ => id
    simp [serveRequest, serveRemoveObject, free, objects_le_iff, Nat.not_lt_of_le low, service]

end Sys2Proof.Machine
end

section
/-! PROOFS. OBJECT-SERVICE and CLEAR-LATCH for an object: the record, its change, and what a hand-over of the change
does (R60, R62, R91, R95, R137). -/

namespace Sys2Proof.Machine

/-! ### A change that is handed over alone (R95) -/

theorem State.handAlone_eq (s : State) (c : Change) : s.handAlone c = (s.handChange c).handToPress [c] := rfl

theorem State.handAlone_sameObjects (s : State) (c : Change) : SameObjects s (s.handAlone c) :=
  (sameObjects_kept s).handToPress ((sameObjects_kept s).handChange (.refl s))

theorem State.handAlone_ground (s : State) (c : Change) : SameGround s (s.handAlone c) :=
  (sameGround_kept s).handToPress ((sameGround_kept s).handChange (.refl s))

theorem State.handAlone_link (s : State) (c : Change) : (s.handAlone c).link = s.link :=
  (link_kept s.link).handToPress ((link_kept s.link).handChange rfl)

theorem State.handAlone_watching {s : State} {c : Change} (k : Nat)
    (watching : ((s.handAlone c).slot k).isWatching = true) : (s.slot k).isWatching = true :=
  (watchesNoMore_kept s).handToPress ((watchesNoMore_kept s).handChange fun _ => id) k watching

/-! ### The watch that a change voids (R137) -/

/-- A hand-over leaves a slot or ends its operation. -/
theorem State.judgeWatch_or (changes : List Change) (s : State) (k : Nat) :
    State.judgeWatch changes s k = s ∨ ∃ rep, State.judgeWatch changes s k = s.endOperation k rep := by
  cases slot : s.slot k with
  | watching op e =>
    rw [State.judgeWatch_eq slot]
    split_ifs
    · exact .inl rfl
    · exact .inr ⟨_, rfl⟩
    · exact .inr ⟨_, rfl⟩
    · exact .inl rfl
  | _ => exact .inl (State.judgeWatch_of_idle (by rw [slot]; rfl))

section Void

variable {s : State} {k : Nat} {op : Operation} {e : Stamp} {c : Change}

/-- The hand-over of another slot leaves a slot that watches outside the queue. -/
theorem State.judgeWatch_slot {j : Nat} (ne : k ≠ j) (slot : s.slot k = .watching op e) (unqueued : k ∉ s.press.queue) :
    (State.judgeWatch [c] s j).slot k = .watching op e ∧ k ∉ (State.judgeWatch [c] s j).press.queue ∧
      (State.judgeWatch [c] s j).time = s.time := by
  obtain same | ⟨rep, ended⟩ := State.judgeWatch_or [c] s j
  · rw [same]
    exact ⟨slot, unqueued, rfl⟩
  · rw [ended]
    refine ⟨?_, fun mem => unqueued (State.mem_queue_of_endOperation mem), (s.endOperation_ground j rep).time⟩
    obtain stands | ⟨mem, -⟩ := State.endOperation_slot_other (s := s) rep ne (op := op) (by rw [slot]; rfl)
    · exact stands.trans slot
    · exact absurd mem unqueued

theorem State.judgeWatch_hasPressEnd {j tag : Nat} {rep : EndReport} (ne : k ≠ j) (ended : s.hasPressEnd k tag rep) :
    (State.judgeWatch [c] s j).hasPressEnd k tag rep := by
  obtain same | ⟨rep', over'⟩ := State.judgeWatch_or [c] s j
  · rwa [same]
  · rw [over']
    exact (s.endOperation_keeps j rep').2.2 k tag rep ne ended

/-- A change of an object to OUT-OF-SERVICE ends the operation of a slot that watches it (R137). -/
theorem State.foldl_judgeWatch_void (slots : List Nat) (nodup : slots.Nodup) (mem : k ∈ slots)
    (slot : s.slot k = .watching op e) (unqueued : k ∉ s.press.queue) (watched : ∃ i ∈ op.expects, i.object = c.object)
    (void : c.presented.code = .outOfService) :
    (slots.foldl (State.judgeWatch [c]) s).hasPressEnd k op.tag ⟨.expectVoid, none, none, s.time⟩ := by
  induction slots generalizing s with
  | nil => exact nomatch mem
  | cons j js ih =>
    obtain ⟨out, nodup⟩ := List.nodup_cons.mp nodup
    rw [List.foldl_cons]
    by_cases own : k = j
    · subst own
      have seen : op.watched [c] = [c] := by
        rw [op.watched_eq]
        simp [watched]
      have ended : State.judgeWatch [c] s k = s.endOperation k ⟨.expectVoid, none, none, s.time⟩ :=
        (State.judgeWatch_cases slot (op.watched_eq [c])).2.1 ⟨c, by simp [seen], void⟩
      have active : (s.slot k).operation = some op := by rw [slot]; rfl
      have here : (State.judgeWatch [c] s k).hasPressEnd k op.tag ⟨.expectVoid, none, none, s.time⟩ := by
        rw [ended]
        exact State.endOperation_hasPressEnd active _
      have kept : ∀ (ks : List Nat) (t : State), k ∉ ks → t.hasPressEnd k op.tag ⟨.expectVoid, none, none, s.time⟩ →
          (ks.foldl (State.judgeWatch [c]) t).hasPressEnd k op.tag ⟨.expectVoid, none, none, s.time⟩ := by
        intro ks
        induction ks with
        | nil => exact fun _ _ => id
        | cons i is ih =>
          intro t out h
          rw [List.foldl_cons]
          exact ih _ (fun m => out (List.mem_cons_of_mem i m))
            (State.judgeWatch_hasPressEnd (fun e => out (e ▸ List.mem_cons_self)) h)
      exact kept js _ out here
    · obtain ⟨slot', unqueued', time⟩ := State.judgeWatch_slot (c := c) own slot unqueued
      rw [← time]
      exact ih nodup ((List.mem_cons.mp mem).resolve_left own) slot' unqueued'

theorem State.handAlone_void (place : k < 4) (slot : s.slot k = .watching op e) (unqueued : k ∉ s.press.queue)
    (watched : ∃ i ∈ op.expects, i.object = c.object) (void : c.presented.code = .outOfService) :
    (s.handAlone c).hasPressEnd k op.tag ⟨.expectVoid, none, none, s.time⟩ := by
  have same := s.handChange_samePress c
  have slot' : (s.handChange c).slot k = .watching op e := by
    obtain e' | ⟨rests, -⟩ := same.slots k
    · exact e'.trans slot
    · rw [slot] at rests
      exact nomatch rests
  have time : (s.handChange c).time = s.time := ((sameGround_kept s).handChange (.refl s)).time
  rw [State.handAlone_eq, State.handToPress_eq, ← time]
  exact State.foldl_judgeWatch_void [0, 1, 2, 3] (by decide) (by interval_cases k <;> simp) slot'
    (by rwa [same.queue]) watched void

end Void

/-! ### OBJECT-SERVICE out (R62) -/

/-- Settles O27: the record is written and its change handed over alone, which voids the watches on the object. -/
theorem objectGoesOutOfService : Obligations.ObjectGoesOutOfService := by
  intro s tag n serves
  refine ⟨fun busy => ?_, fun free high => ?_, fun free low service => ?_,
    fun free low shaped service recorded p w hr hp hw => ?_⟩
  · exact exec_unchanged serves rfl (by simp [serveRequest, serveObjectServiceOut, busy, refusal])
  · exact exec_unchanged serves rfl (by simp [serveRequest, serveObjectServiceOut, free, objects_le_iff, high, refusal])
  · exact exec_unchanged serves rfl
      (by simp [serveRequest, serveObjectServiceOut, free, objects_le_iff, Nat.not_lt_of_le low, service, refusal])
  · have length : s.table.objects.length = 512 := shaped.objects
    have taken : s.takeObjectOut n = w.handAlone ((s.object n).outChange n s.time) := by
      rw [hw, hp, hr]
      rfl
    have self : w.object n = (s.object n).takenOut s.time := by
      rw [hw, hp, hr, State.object_setIndex, State.object_setObject_self (by omega)]
      rfl
    have other : ∀ m, m ≠ n → w.object m = s.object m := fun m ne => by
      rw [hw, State.object_setIndex, State.object_setObject_ne (Ne.symm ne)]
    have objects := (w.handAlone_sameObjects ((s.object n).outChange n s.time)).objects
    have index := (w.handAlone_sameObjects ((s.object n).outChange n s.time)).index
    have ground : SameGround w (s.takeObjectOut n) := taken ▸ w.handAlone_ground _
    have slots : ∀ k, w.slot k = s.slot k := fun k => by rw [hw]; rfl
    have run : exec (.objectServiceOut tag n) s = .next ((s.takeObjectOut n).afterReply 0xA2#8 tag .ok []) := by
      refine exec_okWith_running serves rfl ?_ (fun m e running => .inr ?_) fun k watching => ?_
      · simp [serveRequest, serveObjectServiceOut, free, objects_le_iff, Nat.not_lt_of_le low, service]
      · rw [taken, (objects m).timer] at running
        by_cases own : m = n
        · rw [own, self] at running
          exact nomatch running
        · rwa [other m own] at running
      · rw [taken] at watching
        have := State.handAlone_watching k watching
        rwa [slots] at this
    refine ⟨s.takeObjectOut n, run, fun d old c definition presented hc => ?_, fun m => taken ▸ objects m,
      fun m ne => other m ne ▸ taken ▸ objects m, ?_, ?_, fun k op e slot watched place unqueued => ?_, ?_⟩
    · have change : (s.object n).outChange n s.time = c := by
        rw [hc, hp, hr]
        simp [ObjectRecord.outChange, ObjectRecord.urgency, ObjectRecord.code, ObjectRecord.outPresented, definition,
          presented, Attrs.empty]
      rw [taken, change]
      rfl
    · rw [taken, index, hw]
      rfl
    · rw [taken, State.handAlone_link, hw]
      rfl
    · have time : w.time = s.time := by rw [hw]; rfl
      rw [taken, ← time]
      exact State.handAlone_void place ((slots k).trans slot) (by rw [hw]; exact unqueued) watched rfl
    · have base : SameGround (s.setIndex (s.table.index.filter (·.object ≠ n))) w := by
        rw [hw]
        exact ⟨rfl, rfl, rfl, rfl, rfl, rfl, rfl, rfl, rfl, rfl⟩
      have all := base.trans ground
      exact ⟨all.scanner, all.filter, all.flash, all.power, all.time, all.straps, all.store, all.inhibit, all.pending⟩

/-! ### CLEAR-LATCH for an object (R91) -/

/-- Settles O28: the record loses its latch, and its change is handed over alone. -/
theorem objectLatchIsCleared : Obligations.ObjectLatchIsCleared := by
  intro s tag n serves
  refine ⟨fun high => ?_, fun low service => ?_, fun p low service presented => ⟨fun alarm => ?_, fun calm empty => ?_,
    fun calm held shaped recorded q w hr hq hw => ?_⟩⟩
  · exact exec_unchanged serves rfl (by simp [serveRequest, serveClearLatchObject, objects_le_iff, high, refusal])
  · exact exec_unchanged serves rfl
      (by simp [serveRequest, serveClearLatchObject, objects_le_iff, Nat.not_lt_of_le low, service, refusal])
  · exact exec_unchanged serves rfl (by simp [serveRequest, serveClearLatchObject, objects_le_iff, Nat.not_lt_of_le low,
      service, presented, alarm, refusal])
  · exact exec_unchanged serves rfl (by simp [serveRequest, serveClearLatchObject, objects_le_iff, Nat.not_lt_of_le low,
      service, presented, calm, empty, okWith])
  · have length : s.table.objects.length = 512 := shaped.objects
    have taken : s.unlatchObject n p = w.handAlone ((s.object n).unlatchChange n p s.time) := by
      rw [hw, hq, hr]
      rfl
    have self : w.object n = (s.object n).unlatched p s.time := by
      rw [hw, hq, hr, State.object_setObject_self (by omega)]
      rfl
    have other : ∀ m, m ≠ n → w.object m = s.object m := fun m ne => by
      rw [hw, State.object_setObject_ne (Ne.symm ne)]
    have objects := (w.handAlone_sameObjects ((s.object n).unlatchChange n p s.time)).objects
    have base : SameGround s w := by
      rw [hw]
      exact ⟨rfl, rfl, rfl, rfl, rfl, rfl, rfl, rfl, rfl, rfl⟩
    have slots : ∀ k, w.slot k = s.slot k := fun k => by rw [hw]; rfl
    have run : exec (.clearLatchObject tag n) s = .next ((s.unlatchObject n p).afterReply 0xA6#8 tag .ok []) := by
      refine exec_okWith serves rfl ?_ (fun m => ?_) fun k watching => ?_
      · simp [serveRequest, serveClearLatchObject, objects_le_iff, Nat.not_lt_of_le low, service, presented, calm, held]
      · rw [taken, (objects m).timer]
        by_cases own : m = n
        · rw [own, self]
          rfl
        · rw [other m own]
      · rw [taken] at watching
        have := State.handAlone_watching k watching
        rwa [slots] at this
    refine ⟨s.unlatchObject n p, run, fun d c definition hc => ?_, fun m => taken ▸ objects m,
      fun m ne => other m ne ▸ taken ▸ objects m, base.trans (taken ▸ w.handAlone_ground _), ?_⟩
    · have change : (s.object n).unlatchChange n p s.time = c := by
        rw [hc, hq, hr]
        simp [ObjectRecord.unlatchChange, ObjectRecord.urgency, Presented.unlatched, definition]
      rw [taken, change]
      rfl
    · rw [taken, State.handAlone_link, hw]
      rfl

/-! ### OBJECT-SERVICE in (R60) -/

theorem State.object_afterReply (s : State) (kind tag : Octet) (r : ResultCode) (fields : List Octet) (n : Nat) :
    (s.afterReply kind tag r fields).object n = s.object n := rfl

theorem nextTimer_of_none (a : TimerAction) (e : Stamp) : nextTimer a none e = if a = .start then some e else none := by
  cases a <;> rfl

section ServiceIn

variable {s w : State} {n : Nat} {d : Definition} {old p : Presented} {k : KindOutcome} {recorded : Stamp}
  {latch : Option ObjectLatch}
  (low : n < s.table.objects.length) (definition : (s.object n).definition = some d)
  (presented : (s.object n).presented = some old) (timer : (s.object n).timer = none) (hk : k = s.rule d old false)
  (hr : recorded = recordedStamp (s.object n).lastStamp s.time)
  (hl : latch = nextLatch (s.object n).latch old.code k.code recorded)
  (hp : p = ⟨k.code, k.aspect, { k.attrs with latched := latch.isSome }⟩)
  (hw : w = (s.setIndex (enterIndex n d s.table.index)).setObject n ⟨.inService, some d, some p,
    if p = old then (s.object n).lastStamp else some recorded,
    if k.timer = .start then some (s.time + d.timing) else none,
    if p = old then (s.object n).latch else latch, (s.object n).dirty⟩)
include low definition presented timer hk hr hl hp hw

/-- The object that goes into service is resolved once. -/
theorem State.takeObjectIn_eq : s.takeObjectIn n d =
    if p = old then w else w.handAlone ⟨n, p, .service, recorded, changeLane d.urgency old.code p.code⟩ := by
  have here :
    ((s.setObject n { s.object n with service := .inService }).setIndex (enterIndex n d s.table.index)).object n =
      { s.object n with service := .inService } := by
    rw [State.object_setIndex, State.object_setObject_self low]
  have rule :
    ((s.setObject n { s.object n with service := .inService }).setIndex (enterIndex n d s.table.index)).rule d old
      false = k := hk.symm ▸ rfl
  have presents : k.presents { s.object n with service := .inService } old s.time = p := by
    rw [hp, hl, hr]
    rfl
  unfold State.takeObjectIn
  dsimp only
  rw [State.resolve_of_serving (d := d) (old := old) (by rw [here]) (by rw [here]; exact definition)
    (by rw [here]; exact presented), here, rule]
  by_cases same : p = old
  · rw [resolveRecord_of_same _ _ _ _ _ _ _ (presents.trans same), if_pos same]
    refine (State.handToPress_nil _).trans ?_
    rw [hw, if_pos same, if_pos same, same, ← definition, ← presented, timer, nextTimer_of_none]
    exact State.setObject_setObject (s.setIndex (enterIndex n d s.table.index)) n _ _
  · have code : p.code = k.code := by rw [hp]
    rw [resolveRecord_of_changed _ _ _ _ _ _ _ (fun e => same (presents.symm.trans e)), presents, if_neg same, code]
    have written : w = ((s.setObject n { s.object n with service := .inService }).setIndex
        (enterIndex n d s.table.index)).setObject n { s.object n with
          service := .inService
          timer := nextTimer k.timer (s.object n).timer (s.time + d.timing)
          latch := nextLatch (s.object n).latch old.code k.code (recordedStamp (s.object n).lastStamp s.time)
          presented := some p
          lastStamp := some (recordedStamp (s.object n).lastStamp s.time) } := by
      rw [hw, if_neg same, if_neg same, hl, hr, ← definition, timer, nextTimer_of_none]
      exact (State.setObject_setObject (s.setIndex (enterIndex n d s.table.index)) n _ _).symm
    rw [written, hr]
    rfl

end ServiceIn

/-- Settles O26: the record that the one resolution leaves, and its change handed over alone. -/
theorem objectGoesIntoService : Obligations.ObjectGoesIntoService := by
  intro s tag n serves
  refine ⟨fun busy => ?_, fun free high => ?_, fun free low service => ?_,
    fun d old k recorded latch p free low shaped service definition presented timer hk later hr hl hp =>
      ⟨enterIndex n d s.table.index, fun w u t hw silent spoken ht => ?_⟩⟩
  · exact exec_unchanged serves rfl (by simp [serveRequest, serveObjectServiceIn, busy, refusal])
  · exact exec_unchanged serves rfl (by simp [serveRequest, serveObjectServiceIn, free, objects_le_iff, high, refusal])
  · refine exec_unchanged serves rfl ?_
    cases state : (s.object n).service <;>
      simp_all [serveRequest, serveObjectServiceIn, objects_le_iff, Nat.not_lt_of_le low, refusal]
  · have length : s.table.objects.length = 512 := shaped.objects
    have place : n < s.table.objects.length := by omega
    have code : p.code = k.code := by rw [hp]
    have taken : s.takeObjectIn n d = u := by
      rw [State.takeObjectIn_eq place definition presented timer hk hr hl hp hw]
      by_cases same : p = old
      · rw [if_pos same, silent same]
      · rw [if_neg same, spoken same _ rfl]
        rfl
    have self : w.object n = ⟨.inService, some d, some p, if p = old then (s.object n).lastStamp else some recorded,
        if k.timer = .start then some (s.time + d.timing) else none, if p = old then (s.object n).latch else latch,
        (s.object n).dirty⟩ := by
      rw [hw]
      exact State.object_setObject_self place
    have other : ∀ m, m ≠ n → w.object m = s.object m := fun m ne => by
      rw [hw, State.object_setObject_ne (Ne.symm ne), State.object_setIndex]
    have kept : SameObjects w u := by
      by_cases same : p = old
      · rw [silent same]
        exact .refl w
      · rw [spoken same _ rfl]
        exact w.handAlone_sameObjects _
    have ground : SameGround w u := by
      by_cases same : p = old
      · rw [silent same]
        exact .refl w
      · rw [spoken same _ rfl]
        exact w.handAlone_ground _
    have slots : ∀ j, (u.slot j).isWatching = true → (s.slot j).isWatching = true := by
      intro j watching
      have watched : (w.slot j).isWatching = true := by
        by_cases same : p = old
        · rwa [silent same] at watching
        · rw [spoken same _ rfl] at watching
          exact State.handAlone_watching j watching
      rw [hw] at watched
      exact watched
    have base : SameGround (s.setIndex (enterIndex n d s.table.index)) w := by
      rw [hw]
      exact ⟨rfl, rfl, rfl, rfl, rfl, rfl, rfl, rfl, rfl, rfl⟩
    have all := base.trans ground
    have shows : (u.object n).presented = some p := by rw [(kept.objects n).presented, self]
    have run : exec (.objectServiceIn tag n) s = .next (u.afterReply 0xA2#8 tag .ok p.octets) := by
      refine exec_okWith_running serves rfl ?_ (fun m e running => ?_) slots
      · simp [serveRequest, serveObjectServiceIn, free, objects_le_iff, Nat.not_lt_of_le low, service, definition,
          taken, shows, presentedOctets]
      · rw [(kept.objects m).timer] at running
        by_cases own : m = n
        · rw [own, self] at running
          have started : k.timer = .start ∧ s.time + d.timing = e := by
            by_cases start : k.timer = .start
            · exact ⟨start, Option.some.inj ((if_pos start).symm.trans running)⟩
            · exact nomatch (if_neg start).symm.trans running
          rw [all.time, ← started.2]
          exact .inl (later.resolve_right fun no => no started.1)
        · rw [other m own] at running
          exact .inr running
    subst ht
    exact ⟨run, by rw [State.object_afterReply, (kept.objects n).service, self],
      by rw [State.object_afterReply, (kept.objects n).definition, self], shows, fun m ne =>
        other m ne ▸ kept.objects m,
      kept.index.trans (by rw [hw]; rfl), fun e => mem_enterIndex, all.scanner, all.filter, all.flash,
      all.power, all.time, all.straps, all.store, all.inhibit, all.pending⟩

end Sys2Proof.Machine
end

section
/-! PROOFS. What the reading requests answer: the header and the entries, octet by octet (R2, R18, R36, R68, R69, R97,
R144, R145, R157, R160, R163 to R173). -/

namespace Sys2Proof.Machine

/-! ### Octets -/

theorem readCount_eq (limit range capacity start count : Nat) (some : 1 ≤ limit) :
    readCount limit range capacity start count = min (min (min (max count 1) limit) (range - start)) capacity := by
  rw [readCount, clampCount, clamp_eq_min_max some]

/-- Up to four numbers, 0xFF beyond the last (R169). -/
theorem stepOctets_eq {steps : List Nat} (few : steps.length ≤ 4) :
    stepOctets steps = steps.map oct ++ List.replicate (4 - steps.length) 0xFF#8 := by
  match steps, few with
  | [], _ => rfl
  | [_], _ => rfl
  | [_, _], _ => rfl
  | [_, _, _], _ => rfl
  | [_, _, _, _], _ => rfl

theorem Straps.octet_eq (x : Straps) : x.octet =
    oct (bit x.rate0 + 2 * bit x.rate1 + 4 * bit x.pressEnable + 8 * bit x.storeIgnore) := by
  rw [Straps.octet, Nat.add_comm (2 * bit x.rate1)]

/-! ### The coverage of a contact (R36) -/

theorem locateFrom_eq_none_iff {ms : List ModuleRecord} {c : Nat} (pos first : Nat) :
    locateFrom pos first ms c = none ↔ ∀ m ∈ ms, m.last < c := by
  induction ms generalizing pos first with
  | nil => simp [locateFrom]
  | cons m ms ih =>
    unfold locateFrom
    by_cases low : c ≤ m.last
    · simp [low]
    · rw [if_neg low, ih, List.forall_mem_cons]
      exact ⟨fun h => ⟨Nat.lt_of_not_le low, h⟩, fun h => h.2⟩

section Coverage

variable {ms : List ModuleRecord} {c : Nat}

theorem coverageCode_of_mapped {x : Nat × Nat} (mapped : mappedAt ms c = some x) : coverageCode ms c = 0 := by
  have covered : locate ms c ≠ none := fun none => by
    simp [mappedAt, none] at mapped
  obtain ⟨y, hy⟩ := Option.ne_none_iff_exists'.mp covered
  simp [coverageCode, hy, mapped]

theorem coverageCode_of_unmapped (unmapped : mappedAt ms c = none) (covered : ∃ m ∈ ms, c ≤ m.last) :
    coverageCode ms c = 1 := by
  have located : locate ms c ≠ none := fun none => by
    obtain ⟨m, mem, low⟩ := covered
    exact absurd ((locateFrom_eq_none_iff 0 0).mp none m mem) (Nat.not_lt_of_le low)
  obtain ⟨y, hy⟩ := Option.ne_none_iff_exists'.mp located
  simp [coverageCode, hy, unmapped]

theorem coverageCode_of_uncovered (uncovered : ∀ m ∈ ms, m.last < c) : coverageCode ms c = 2 := by
  have none : locate ms c = none := (locateFrom_eq_none_iff 0 0).mpr uncovered
  simp [coverageCode, none]

end Coverage

/-! ### The entries -/

theorem State.contactOctets_eq {s : State} {n cover candidate cls : Nat}
    (mapped : (∃ x, mappedAt s.scanner.modules n = some x) → cover = 0)
    (unmapped : mappedAt s.scanner.modules n = none → (∃ m ∈ s.scanner.modules, n ≤ m.last) → cover = 1)
    (uncovered : (∀ m ∈ s.scanner.modules, m.last < n) → cover = 2)
    (hc : candidate = candidateCode (s.contact n).candidate)
    (steady : (s.profile (s.contact n).profile).flash = none → cls = 3)
    (flashed : (s.profile (s.contact n).profile).flash ≠ none → cls = (s.contact n).flash.cls.code) :
    s.contactOctets n = [oct (cover + 4 * acceptedCode (s.contact n).accepted + 16 * candidate
        + 64 * bit (s.contact n).chattering),
      oct ((s.contact n).profile + 16 * agreement (s.contact n).candidate), oct ((s.contact n).chatterCount + 16 * cls)]
        ++ octStamp ((s.contact n).candidate.map (·.stamp)) ++ octNum2 (s.contact n).flash.lastPeriod
        ++ octNum2 (s.contact n).flash.lastOn := by
  have coverage : coverageCode s.scanner.modules n = cover := by
    cases map : mappedAt s.scanner.modules n with
    | some x => rw [coverageCode_of_mapped map, mapped ⟨x, map⟩]
    | none =>
      by_cases covered : ∃ m ∈ s.scanner.modules, n ≤ m.last
      · rw [coverageCode_of_unmapped map covered, unmapped map covered]
      · have beyond : ∀ m ∈ s.scanner.modules, m.last < n := fun m mem =>
          Nat.lt_of_not_le fun low => covered ⟨m, mem, low⟩
        rw [coverageCode_of_uncovered beyond, uncovered beyond]
  have code : s.classCode (s.contact n) = cls := by
    unfold State.classCode
    cases flash : (s.profile (s.contact n).profile).flash with
    | none => exact (steady flash).symm
    | some f => exact (flashed (by simp [flash])).symm
  unfold State.contactOctets
  dsimp only
  rw [coverage, code, hc]

theorem ObjectRecord.octets_eq {o : ObjectRecord} {kind latch : Nat} {shown : List Octet}
    (undefined : o.definition = none → kind = 0) (defined : ∀ d, o.definition = some d → kind = d.kind.code)
    (unlatched : o.latch = none → latch = 0) (latched : ∀ x, o.latch = some x → latch = x.code.code)
    (absent : o.presented = none → shown = [0#8, 0xFF#8, 0#8])
    (presented : ∀ p, o.presented = some p → shown = p.octets) :
    o.octets = [oct (o.service.code + 4 * kind + 32 * bit o.dirty.isSome + 64 * bit (o.dirty = some .urgent))]
      ++ shown ++ octStamp o.lastStamp ++ octStamp o.timer ++ [oct latch] ++ octStamp (o.latch.map (·.stamp)) := by
  have hk : kindCode o.definition = kind := by
    cases d : o.definition with
    | none => exact (undefined d).symm
    | some x => exact (defined x d).symm
  have hl : latchCode o.latch = latch := by
    cases l : o.latch with
    | none => exact (unlatched l).symm
    | some x => exact (latched x l).symm
  have hp : presentedOctets o.presented = shown := by
    cases p : o.presented with
    | none => exact (absent p).symm
    | some x => exact (presented x p).symm
  unfold ObjectRecord.octets
  rw [hk, hl, hp]

theorem OutputRecord.runningEnd_eq (r : OutputRecord) : r.runningEnd = r.pulseEnd.or r.windowEnd := by
  unfold OutputRecord.runningEnd
  cases r.pulseEnd <;> rfl

/-- The output of the operation that holds a permit, if one does (R145). -/
theorem State.permitOutput_eq {s : State} {p : Nat} {z : Option Nat}
    (held : (s.press.permits[p]? = some none ∧ z = none) ∨
      ∃ k op, s.press.permits[p]? = some (some k) ∧ (s.slot k).operation = some op ∧ z = op.current) :
    s.permitOutput p = z := by
  unfold State.permitOutput
  rw [List.getD_eq_getElem?_getD]
  obtain ⟨free, rfl⟩ | ⟨k, op, taken, active, rfl⟩ := held
  · rw [free]
    rfl
  · simp only [taken, Option.getD_some, active]

theorem State.summary_eq (s : State) : s.summary =
    [oct (s.scanner.part.code + 4 * s.link.mode.code + 16 * bit s.link.hold + 32 * bit s.press.inhibit),
      oct (s.lane .urgent).length, oct (s.lane .routine).length,
      oct (bit (s.pendingFor .urgent || s.pendingFor .routine) + 2 * bit s.link.dropped + 4 * s.store.state.code),
      oct (s.scanner.modules.countP (·.state = .failed)), oct (s.press.outputs.countP (·.state = .faulted)),
      oct (s.press.slots.countP (fun x => !x.isFree)), oct s.scanner.period] := rfl

/-! ### The reading requests -/

section Reads

variable {s : State} {tag : Octet} {start count n : Nat} (serves : s.serves)
include serves

theorem exec_readModules :
    (31 < start → exec (.readModules tag start count) s = .next (s.afterReply 0x93#8 tag .badParam [])) ∧
    (start ≤ 31 → n = min (min (min (max count 1) 16) (s.scanner.modules.length - start)) 13 →
      exec (.readModules tag start count) s = .next (s.afterReply 0x93#8 tag .ok
        ([oct s.scanner.part.code, oct s.scanner.period, oct s.scanner.tolerance, oct s.scanner.acquisition,
          oct s.scanner.modules.length, oct n]
          ++ ((s.scanner.modules.drop start).take n).flatMap ModuleRecord.octets))) := by
  refine ⟨fun high => exec_unchanged serves rfl ?_, fun low hn => exec_unchanged serves rfl ?_⟩
  · simp [serveRequest, serveReadModules, moduleSlots_le_iff, high, refusal]
  · rw [← readCount_eq 16 _ 13 start count (by decide)] at hn
    simp [serveRequest, serveReadModules, moduleSlots_le_iff, Nat.not_lt_of_le low, ← hn, Scanner.header, okWith]

theorem exec_readContacts :
    (2047 < start → exec (.readContacts tag start count) s = .next (s.afterReply 0x9B#8 tag .badParam [])) ∧
    (start ≤ 2047 → n = min (min (min (max count 1) 64) (2048 - start)) 14 →
      exec (.readContacts tag start count) s = .next (s.afterReply 0x9B#8 tag .ok
        (oct2 start ++ oct n :: (List.range' start n).flatMap s.contactOctets))) := by
  have range : Config.contacts ≤ start ↔ 2047 < start := Iff.rfl
  refine ⟨fun high => exec_unchanged serves rfl ?_, fun low hn => exec_unchanged serves rfl ?_⟩
  · simp [serveRequest, serveReadContacts, range, high, refusal]
  · have count' : readCount 64 Config.contacts 14 start count = n :=
      (readCount_eq 64 Config.contacts 14 start count (by decide)).trans hn.symm
    simp [serveRequest, serveReadContacts, range, Nat.not_lt_of_le low, count', okWith]

theorem exec_readObjects :
    (511 < start → exec (.readObjects tag start count) s = .next (s.afterReply 0xA4#8 tag .badParam [])) ∧
    (start ≤ 511 → n = min (min (min (max count 1) 12) (512 - start)) 8 →
      exec (.readObjects tag start count) s = .next (s.afterReply 0xA4#8 tag .ok
        (oct2 start ++ oct n :: (List.range' start n).flatMap (fun i => (s.object i).octets)))) := by
  refine ⟨fun high => exec_unchanged serves rfl ?_, fun low hn => exec_unchanged serves rfl ?_⟩
  · simp [serveRequest, serveReadObjects, objects_le_iff, high, refusal]
  · have count' : readCount 12 Config.objects 8 start count = n :=
      (readCount_eq 12 Config.objects 8 start count (by decide)).trans hn.symm
    simp [serveRequest, serveReadObjects, objects_le_iff, Nat.not_lt_of_le low, count', okWith]

theorem exec_readOutputs :
    (63 < start → exec (.readOutputs tag start count) s = .next (s.afterReply 0xB5#8 tag .badParam [])) ∧
    (start ≤ 63 → n = min (min (min (max count 1) 16) (64 - start)) 13 →
      exec (.readOutputs tag start count) s = .next (s.afterReply 0xB5#8 tag .ok
        (s.outputsHeader start n ++ (List.range' start n).flatMap (fun o => (s.output o).octets)))) := by
  refine ⟨fun high => exec_unchanged serves rfl ?_, fun low hn => exec_unchanged serves rfl ?_⟩
  · simp [serveRequest, serveReadOutputs, outputs_le_iff, high, refusal]
  · have count' : readCount 16 Config.outputs 13 start count = n :=
      (readCount_eq 16 Config.outputs 13 start count (by decide)).trans hn.symm
    simp [serveRequest, serveReadOutputs, outputs_le_iff, Nat.not_lt_of_le low, count', okWith]

end Reads

/-- Settles O15: each reading request answers from the state as it stands. -/
theorem stateIsRead : Obligations.StateIsRead := by
  refine ⟨fun s tag serves => ⟨?_, exec_unchanged serves rfl rfl, exec_unchanged serves rfl rfl⟩,
    fun s tag start count serves => ?_, ⟨rfl, rfl, rfl, fun n => ⟨rfl, rfl, rfl, rfl, ?_⟩⟩,
    ⟨rfl, rfl, rfl, rfl, rfl, rfl, rfl, rfl, rfl, rfl, rfl, rfl, rfl, rfl, rfl, rfl, rfl⟩, State.summary_eq,
    fun _ => rfl, fun s n cover candidate cls mapped unmapped uncovered hc steady flashed => ?_,
    fun o kind latch undefined defined unlatched latched shown absent presented =>
      ObjectRecord.octets_eq undefined defined unlatched latched absent presented,
    fun r _ => ?_, fun s start n x y few held => ?_⟩
  · refine exec_unchanged serves rfl ?_
    simp only [serveRequest, serveIdentify, Straps.octet_eq, okWith]
  · exact ⟨(exec_readModules (n := 0) serves).1, fun low n => (exec_readModules serves).2 low,
      (exec_readContacts (n := 0) serves).1, fun low n => (exec_readContacts serves).2 low,
      (exec_readObjects (n := 0) serves).1, fun low n => (exec_readObjects serves).2 low,
      (exec_readOutputs (n := 0) serves).1, fun low n => (exec_readOutputs serves).2 low⟩
  · simp [oct6, List.range_succ]
  · have code : candidate = candidateCode (s.contact n).candidate := by
      rw [hc]
      cases (s.contact n).candidate <;> rfl
    rw [State.contactOctets_eq mapped unmapped uncovered code steady flashed]
    cases (s.contact n).candidate <;> rfl
  · rw [OutputRecord.octets, r.runningEnd_eq]
  · unfold State.outputsHeader
    rw [State.permitOutput_eq (held 0 x (.inl ⟨rfl, rfl⟩)), State.permitOutput_eq (held 1 y (.inr ⟨rfl, rfl⟩)),
      stepOctets_eq few]

/-! ### Matches (R96) -/

theorem CheckItem.matchesState_iff (i : CheckItem) (p : Presented) : i.matchesState p = true ↔ p.code = i.code ∧
    (∀ a, i.aspect = some a → p.aspect = some a) ∧ (i.flashing = .steady → p.attrs.flashing = false) ∧
    (i.flashing = .flashing → p.attrs.flashing = true) := by
  have aspect : (i.aspect.isNone || decide (p.aspect = i.aspect)) = true ↔
      ∀ a, i.aspect = some a → p.aspect = some a := by
    cases i.aspect <;> simp
  have flashing : i.flashing.agrees p.attrs.flashing = true ↔ (i.flashing = .steady → p.attrs.flashing = false) ∧
      (i.flashing = .flashing → p.attrs.flashing = true) := by
    cases i.flashing <;> simp [FlashReq.agrees]
  rw [CheckItem.matchesState, Bool.and_eq_true, Bool.and_eq_true, aspect, flashing, decide_eq_true_eq, and_assoc]

theorem State.itemMatches_iff (s : State) (i : CheckItem) : s.itemMatches i = true ↔
    (s.object i.object).service = .inService ∧ ∃ p, (s.object i.object).presented = some p ∧ p.code = i.code ∧
      (∀ a, i.aspect = some a → p.aspect = some a) ∧ (i.flashing = .steady → p.attrs.flashing = false) ∧
      (i.flashing = .flashing → p.attrs.flashing = true) := by
  unfold State.itemMatches
  cases (s.object i.object).presented with
  | none => simp
  | some p => simp [CheckItem.matchesState_iff]

/-! ### The press slots (R169) -/

/-- The match flags as a number: bit i for item i. -/
theorem State.testBit_matchFlags (s : State) (items : List CheckItem) (first i : Nat) :
    (s.matchFlags first items).testBit (first + i) = true ↔ ∃ x, items[i]? = some x ∧ s.itemMatches x = true := by
  have shift : ∀ (items : List CheckItem) (first : Nat),
      s.matchFlags first items = 2 ^ first * s.matchFlags 0 items := by
    intro items
    induction items with
    | nil => exact fun _ => rfl
    | cons c cs ih =>
      intro first
      rw [State.matchFlags, State.matchFlags, ih (first + 1), ih (0 + 1)]
      ring
  rw [shift, Nat.testBit_two_pow_mul, Nat.add_sub_cancel_left]
  simp only [Nat.le_add_right, decide_true, Bool.true_and]
  induction items generalizing i with
  | nil => simp [State.matchFlags]
  | cons c cs ih =>
    have step : s.matchFlags 0 (c :: cs) = 2 * s.matchFlags 0 cs + (s.itemMatches c).toNat := by
      rw [State.matchFlags, shift cs (0 + 1)]
      cases s.itemMatches c <;> simp [bit, Nat.add_comm]
    rw [step]
    cases i with
    | zero =>
      rw [Nat.testBit_zero]
      cases matched : s.itemMatches c <;> simp [matched, Nat.add_mod]
    | succ i =>
      have half : (2 * s.matchFlags 0 cs + (s.itemMatches c).toNat) / 2 = s.matchFlags 0 cs := by
        have := Bool.toNat_lt (s.itemMatches c)
        omega
      rw [Nat.testBit_succ, half]
      exact (ih i).trans (by simp)

theorem State.slotFlags_eq {s : State} {op : Operation} {e : Stamp} {flags : Octet}
    (bits : ∀ i, i < 8 → (flags.getLsbD i = true ↔ ∃ x, op.expects[i]? = some x ∧ s.itemMatches x = true)) :
    oct (s.slotFlags (.watching op e)) = flags := by
  refine BitVec.eq_of_getLsbD_eq fun i low => ?_
  rw [Bool.eq_iff_iff, bits i low, ← s.testBit_matchFlags op.expects 0 i, Nat.zero_add, oct, BitVec.getLsbD_ofNat]
  simp [low, State.slotFlags]

theorem State.queuePosition_eq {s : State} {k : Nat} {before after : List Nat}
    (queue : s.press.queue = before ++ k :: after) (first : k ∉ before) :
    s.queuePosition k = some (before.length + 1) := by
  have found : s.press.queue.findIdx? (· = k) = some before.length := by
    rw [queue]
    refine findIdx?_eq_some_iff_getElem?.mpr ⟨⟨k, by simp, by simp⟩, fun m x lt here => ?_⟩
    rw [List.getElem?_append_left lt] at here
    have : x ≠ k := fun e => first (e ▸ List.mem_of_getElem? here)
    simpa using this
  rw [State.queuePosition, found]
  rfl

section SlotOctets

variable {s : State} {k : Nat} {op : Operation} {report : List Octet}

/-- The octets of an active slot. -/
theorem State.slotOctets_of_active {x : Slot} (slot : s.slot k = x) (active : x.operation = some op)
    (tag : x.tag = some op.tag) (ended : x.report = none) (few : op.steps.length ≤ 4) :
    s.slotOctets k = oct x.code :: x.progress ++ (oct2 op.tag ++ (op.steps.map oct ++
      List.replicate (4 - op.steps.length) 0xFF#8) ++ oct2 op.gap ++ oct2 op.watch ++ [oct op.expects.length])
      ++ octStamp (s.runningExpiry x) ++ [octNum (s.slotPosition k), oct (s.slotFlags x)] ++ reportOctets none := by
  unfold State.slotOctets
  dsimp only
  rw [slot, active, tag, ended]
  simp only [Option.map_some, Option.getD_some, stepOctets_eq few, octNum2, octNum, List.append_assoc, List.cons_append]

theorem State.slotPosition_of_other {x : Slot} (slot : s.slot k = x) (idle : ∀ op, x ≠ .waiting op) :
    s.slotPosition k = none := by
  unfold State.slotPosition
  split
  next op waits => exact absurd (slot.symm.trans waits) (idle op)
  · rfl

theorem reportOctets_some (rep : EndReport) : reportOctets (some rep) =
    [oct rep.outcome.code, octNum rep.failing, oct (driverCode rep.cause)] ++ oct6 rep.stamp := by
  obtain ⟨outcome, failing, cause, stamp⟩ := rep
  cases cause <;> rfl

theorem State.slotOctets_of_free (slot : s.slot k = .free none) : s.slotOctets k =
    [oct 0, 0xFF#8, 0xFF#8] ++ List.replicate 2 0xFF#8 ++ List.replicate 4 0xFF#8 ++ List.replicate 2 0xFF#8
      ++ List.replicate 2 0xFF#8 ++ [0xFF#8] ++ List.replicate 6 0xFF#8 ++ [0xFF#8, 0#8, 0#8, 0xFF#8, 0#8]
      ++ List.replicate 6 0xFF#8 := by
  rw [State.slotOctets, State.slotPosition_of_other slot nofun, slot]
  rfl

theorem State.slotOctets_of_report {rep : EndReport} (slot : s.slot k = .free (some rep)) : s.slotOctets k =
    [oct 0, 0xFF#8, 0xFF#8] ++ List.replicate 2 0xFF#8 ++ List.replicate 4 0xFF#8 ++ List.replicate 2 0xFF#8
      ++ List.replicate 2 0xFF#8 ++ [0xFF#8] ++ List.replicate 6 0xFF#8 ++ [0xFF#8, 0#8]
      ++ reportOctets (some rep) := by
  rw [State.slotOctets, State.slotPosition_of_other slot nofun, slot]
  rfl

theorem State.slotOctets_of_ended {tag : Nat} {rep : EndReport} (slot : s.slot k = .ended tag rep) : s.slotOctets k =
    [oct 6, 0xFF#8, 0xFF#8] ++ oct2 tag ++ List.replicate 4 0xFF#8 ++ List.replicate 2 0xFF#8
      ++ List.replicate 2 0xFF#8 ++ [0xFF#8] ++ List.replicate 6 0xFF#8 ++ [0xFF#8, 0#8]
      ++ reportOctets (some rep) := by
  rw [State.slotOctets, State.slotPosition_of_other slot nofun, slot]
  rfl

end SlotOctets

theorem Operation.record_eq {op : Operation} {o : Nat} (current : op.current = some o) (s : State) :
    op.record s = s.output o := by
  unfold Operation.record
  rw [current]

/-- The octets of a slot, by its state (R144, R169). -/
theorem State.slotOctets_cases (s : State) (k : Nat) (none6 : List Octet)
    (h6 : none6 = List.replicate 6 0xFF#8) (op : Operation) (few : op.steps.length ≤ 4) (contents : List Octet)
    (hc : contents = oct2 op.tag ++ (op.steps.map oct ++ List.replicate (4 - op.steps.length) 0xFF#8) ++ oct2 op.gap
      ++ oct2 op.watch ++ [oct op.expects.length]) :
    (∀ before after, s.slot k = .waiting op → s.press.queue = before ++ k :: after → k ∉ before →
      s.slotOctets k = [oct 1, oct op.step, oct op.steps.length] ++ contents ++ none6
        ++ [oct (before.length + 1), 0#8, 0#8, 0xFF#8, 0#8] ++ none6) ∧
    (∀ o, op.current = some o →
      (s.slot k = .driving op → s.slotOctets k = [oct 2, oct op.step, oct op.steps.length] ++ contents
        ++ octStamp (s.output o).pulseEnd ++ [0xFF#8, 0#8, 0#8, 0xFF#8, 0#8] ++ none6) ∧
      (s.slot k = .releasing op → s.slotOctets k = [oct 3, oct op.step, oct op.steps.length] ++ contents
        ++ octStamp (s.output o).windowEnd ++ [0xFF#8, 0#8, 0#8, 0xFF#8, 0#8] ++ none6)) ∧
    (∀ e, s.slot k = .gap op e → s.slotOctets k = [oct 4, oct op.step, oct op.steps.length] ++ contents ++ oct6 e
      ++ [0xFF#8, 0#8, 0#8, 0xFF#8, 0#8] ++ none6) ∧
    (∀ (e : Stamp) (flags : Octet), s.slot k = .watching op e → op.expects.length ≤ 8 →
      (∀ i, i < 8 → (flags.getLsbD i = true ↔ ∃ x, op.expects[i]? = some x ∧ s.itemMatches x = true)) →
      s.slotOctets k =
        [oct 5, 0xFF#8, 0xFF#8] ++ contents ++ oct6 e ++ [0xFF#8, flags, 0#8, 0xFF#8, 0#8] ++ none6) := by
  have report : reportOctets none = [0#8, 0xFF#8, 0#8] ++ none6 := by rw [h6]; rfl
  refine ⟨fun before after slot queue first => ?_, fun o current => ⟨fun slot => ?_, fun slot => ?_⟩, fun e slot => ?_,
    fun e flags slot _ bits => ?_⟩
  all_goals rw [State.slotOctets_of_active slot rfl rfl rfl few, ← hc, report]
  · have position : s.slotPosition k = some (before.length + 1) := by
      rw [State.slotPosition, slot]
      exact State.queuePosition_eq queue first
    rw [position, h6]
    simp [Slot.code, Slot.progress, State.runningExpiry, octStamp, octNum, State.slotFlags, oct]
  · rw [State.slotPosition_of_other slot nofun]
    simp [Slot.code, Slot.progress, State.runningExpiry, Operation.record_eq current, octNum, State.slotFlags, oct]
  · rw [State.slotPosition_of_other slot nofun]
    simp [Slot.code, Slot.progress, State.runningExpiry, Operation.record_eq current, octNum, State.slotFlags, oct]
  · rw [State.slotPosition_of_other slot nofun]
    simp [Slot.code, Slot.progress, State.runningExpiry, octStamp, octNum, State.slotFlags, oct]
  · rw [State.slotPosition_of_other slot nofun, State.slotFlags_eq bits]
    simp [Slot.code, Slot.progress, State.runningExpiry, octStamp, octNum]

/-- Settles O29: the answers, what the fields name, when an item matches, and the octets of a slot by its state. -/
theorem definitionsChecksAndSlotsAreRead : Obligations.DefinitionsChecksAndSlotsAreRead := by
  refine ⟨fun s tag serves => ⟨fun n high => ?_, fun n low service => ?_, fun n d low service definition => ?_,
      fun fields misfit => ?_, fun fields items few read missed hm => ?_⟩,
    fun s tag k serves => ⟨fun high => ?_, fun low => ?_⟩,
    fun fields => ⟨readCheckItems_eq_some_iff fields, readCheckItems_ne_none_iff fields⟩,
    fun s i => ⟨s.itemMatches_iff i, fun p presented => ?_⟩,
    fun s k none2 none6 h2 h6 => ⟨fun slot => ?_, fun rep report hr => ⟨fun slot => ?_, fun tag slot => ?_⟩,
      fun op few contents hc => s.slotOctets_cases k none6 h6 op few contents hc, rfl⟩⟩
  · exact exec_unchanged serves rfl (by simp [serveRequest, serveReadDefinition, objects_le_iff, high, refusal])
  · exact exec_unchanged serves rfl
      (by simp [serveRequest, serveReadDefinition, objects_le_iff, Nat.not_lt_of_le low, service, refusal])
  · have octets : definitionOctets n (s.object n).service d = oct2 n ++ [oct (s.object n).service.code, oct d.kind.code,
        oct d.urgency.code] ++ oct2 d.timing ++ oct d.refs.length
          :: d.refs.flatMap (fun r => oct2 r.contact ++ [oct r.role.code, oct (if r.inverted then 1 else 0)]) := rfl
    rw [← octets]
    exact exec_unchanged serves rfl
      (by simp [serveRequest, serveReadDefinition, objects_le_iff, Nat.not_lt_of_le low, service, definition, okWith])
  · refine exec_unchanged serves rfl ?_
    by_cases many : 16 < fields.length
    · simp [serveRequest, serveCheck, many, refusal]
    · have unread : readCheckItems fields = none := by
        by_contra read
        obtain ⟨f, mem, fault⟩ := misfit.resolve_left many
        obtain ⟨low, ⟨code, hcode⟩, aspect, flashing⟩ := (readCheckItems_ne_none_iff fields).mp read f mem
        obtain high | unknown | ⟨high, ne⟩ | high := fault
        · omega
        · exact unknown code hcode
        · omega
        · omega
      simp [serveRequest, serveCheck, many, unread, refusal]
  · refine exec_unchanged serves rfl ?_
    have flag : bit missed.isEmpty = if missed = [] then 1 else 0 := by
      cases missed <;> rfl
    rw [← flag, hm]
    simp [serveRequest, serveCheck, Nat.not_lt_of_le few, read, State.mismatches, okWith]
  · exact exec_unchanged serves rfl (by simp [serveRequest, servePressStatus, pressSlots_le_iff, high, refusal])
  · exact exec_unchanged serves rfl
      (by simp [serveRequest, servePressStatus, pressSlots_le_iff, Nat.not_lt_of_le low, okWith])
  · rw [State.mismatchOctets, presented]
    rfl
  · rw [h2, h6]
    exact State.slotOctets_of_free slot
  · rw [hr, h2, h6, ← reportOctets_some]
    exact State.slotOctets_of_report slot
  · rw [hr, h2, h6, ← reportOctets_some]
    exact State.slotOctets_of_ended slot

end Sys2Proof.Machine
end

section
/-! PROOFS. The requests that change contacts: profiles, assignments and flash profiles (R22 to R24, R35, R38, R39). -/

namespace Sys2Proof.Machine

/-! ### Contacts changed with their batch (R35) -/

/-- What stands through the batch of a request, its answer, and all that follows at once. -/
theorem State.finish_applyBatch_ground (s v : State) (entries : List BatchEntry) (kind tag : Octet) (r : ResultCode)
    (fields : List Octet) : SameGround v (State.finish s ((v.applyBatch entries).afterReply kind tag r fields)) :=
  (sameGround_kept v).finish ((sameGround_kept v).link _ _ ((sameGround_kept v).applyBatch (.refl v)))

theorem State.applyBatch_link (v : State) (entries : List BatchEntry) : (v.applyBatch entries).link = v.link :=
  (link_kept v.link).applyBatch rfl

theorem SameGround.contact {s t : State} (h : SameGround s t) (c : Nat) : t.contact c = s.contact c := by
  unfold State.contact
  rw [h.filter]

/-- A change of every contact that leaves a fresh one. -/
theorem State.contact_map (s : State) {f : Contact → Contact} (rest : f (.fresh 0) = .fresh 0) (c : Nat) :
    (s.setContacts (s.filter.contacts.map f)).contact c = f (s.contact c) := by
  simp only [State.contact, State.setContacts, List.getD_eq_getElem?_getD, List.getElem?_map]
  cases s.filter.contacts[c]? with
  | none => exact rest.symm
  | some x => rfl

theorem State.contact_mapIdx (s : State) {f : Nat → Contact → Contact} {c : Nat}
    (place : c < s.filter.contacts.length) :
    (s.setContacts (s.filter.contacts.mapIdx f)).contact c = f c (s.contact c) := by
  simp [State.contact, State.setContacts, List.getD_eq_getElem?_getD, place]

theorem State.contact_mapIdx_beyond (s : State) {f : Nat → Contact → Contact} {c : Nat}
    (beyond : s.filter.contacts.length ≤ c) : (s.setContacts (s.filter.contacts.mapIdx f)).contact c = s.contact c := by
  simp [State.contact, State.setContacts, List.getD_eq_getElem?_getD, beyond]

/-! ### A change of the governing values (R24) -/

theorem applyProfileChange_fresh (old new : ContactProfile) : applyProfileChange old new (.fresh 0) = .fresh 0 := by
  unfold applyProfileChange
  dsimp only
  split <;> split <;> rfl

theorem capCandidate_some (depth : Nat) (k : Candidate) : capCandidate depth (some k) =
    if k.count < depth then some k else if depth ≤ 1 then none else some { k with count := depth - 1 } := rfl

theorem applyProfileChange_profile (old new : ContactProfile) (c : Contact) :
    (applyProfileChange old new c).profile = c.profile := by
  unfold applyProfileChange
  dsimp only
  split <;> split <;> rfl

/-- The record after a change, field by field; its profile number is written apart. -/
theorem profileChanged_of (old new : ContactProfile) (c c' : Contact)
    (h : c' = { applyProfileChange old new c with profile := c'.profile }) : ProfileChanged old new c c' := by
  have candidate : c'.candidate = capCandidate new.depth c.candidate := by
    rw [h]
    unfold applyProfileChange
    dsimp only
    split <;> split <;> rfl
  refine ⟨?_, fun changed => ?_, fun same => ?_, fun quiet => ?_, fun same kept => ?_, fun none => ?_,
    fun k some low => ?_, fun k some high => ?_⟩
  · rw [h]
    unfold applyProfileChange
    dsimp only
    split <;> split <;> rfl
  · rw [h, applyProfileChange, if_pos changed]
    dsimp only
    split <;> rfl
  · rw [h, applyProfileChange, if_neg (not_not_intro same)]
    dsimp only
    split <;> rfl
  · rw [h]
    unfold applyProfileChange
    dsimp only
    by_cases ended : old.limit ≠ 0 ∧ new.limit = 0
    · rw [if_pos ended]
      exact ⟨rfl, rfl, rfl⟩
    · rw [if_neg ended, if_pos (quiet.resolve_right ended)]
      exact ⟨rfl, rfl, rfl⟩
  · rw [h, applyProfileChange, if_neg (not_not_intro same), if_neg kept]
    exact ⟨rfl, rfl, rfl⟩
  · rw [candidate, none]
    rfl
  · rw [candidate, some, capCandidate_some, if_pos low]
  · rw [candidate, some, capCandidate_some, if_neg (Nat.not_lt_of_le high)]

/-! ### DEFINE-PROFILE (R22) -/

theorem takenProfile_eq (k h l flash : Nat) : takenProfile k h l flash =
    ⟨min (max k 1) 15, if h = 0 then 0 else min (max h 2) 15, min (max l 100) 10000 / 100 * 100,
      if flash = 0xFF then none else some flash⟩ := by
  have depth : clampDepth k = min (max k 1) 15 := clamp_eq_min_max (by decide) k
  have limit : clampLimit h = if h = 0 then 0 else min (max h 2) 15 := by
    rw [clampLimit, clamp_eq_min_max (by decide)]
    split_ifs <;> omega
  have leak : clampLeak l = min (max l 100) 10000 / 100 * 100 := by
    rw [clampLeak, clamp_eq_min_max (by decide), roundDown]
  rw [takenProfile, depth, limit, leak, optionalOctet]

theorem belowOrAbsent_eq_false {bound : Nat} (n : Nat) :
    belowOrAbsent bound (optionalOctet n) = false ↔ n ≠ 0xFF ∧ bound ≤ n := by
  rw [Bool.eq_false_iff, Ne, belowOrAbsent_optionalOctet, not_or, Nat.not_lt]

theorem exec_defineProfile {s : State} {tag : Octet} {p k h l flash : Nat} {new : ContactProfile} (serves : s.serves)
    (free : s.busy = false) (low : p ≤ 15) (fits : flash ≤ 7 ∨ flash = 0xFF) (hn : takenProfile k h l flash = new) :
    exec (.defineProfile tag p k h l flash) s = .next (State.finish s
      (((s.setProfile p new).changeContacts (reprofile p (s.profile p) new s.filter.contacts)).afterReply 0x98#8 tag .ok
        new.octets)) := by
  have range : ¬ (Config.contactProfiles ≤ p ∨ belowOrAbsent Config.flashProfiles (optionalOctet flash) = false) := by
    rw [belowOrAbsent_eq_false, not_or]
    have profiles : Config.contactProfiles = 16 := rfl
    have flashes : Config.flashProfiles = 8 := rfl
    exact ⟨by omega, by omega⟩
  refine exec_okWith_finish serves rfl ?_
  simp only [serveRequest, serveDefineProfile, free, if_neg range, hn]
  rfl

theorem exec_defineProfile_refused {s : State} {tag : Octet} {p k h l flash : Nat} (serves : s.serves)
    (free : s.busy = false) (misfit : 15 < p ∨ (7 < flash ∧ flash ≠ 0xFF)) :
    exec (.defineProfile tag p k h l flash) s = .next (s.afterReply 0x98#8 tag .badParam []) := by
  have range : Config.contactProfiles ≤ p ∨ belowOrAbsent Config.flashProfiles (optionalOctet flash) = false := by
    rw [belowOrAbsent_eq_false]
    exact misfit.imp id fun ⟨high, ne⟩ => ⟨ne, high⟩
  refine exec_unchanged serves rfl ?_
  simp only [serveRequest, serveDefineProfile, free, if_pos range]
  rfl

/-! ### ASSIGN-PROFILE (R23) -/

theorem reassigned_iff {first last p n : Nat} {c : Contact} : reassigned first last p n c = true ↔
    first ≤ n ∧ n ≤ last ∧ c.profile ≠ p := by
  simp [reassigned, and_assoc]

/-- The contacts reassigned, counted by their numbers. -/
theorem State.assignCount_eq {s : State} (length : s.filter.contacts.length = 2048) (first last p : Nat) :
    s.assignCount first last p = (List.range 2048).countP
      (fun c => decide (first ≤ c) && decide (c ≤ last) && decide ((s.contact c).profile ≠ p)) := by
  have numbered : s.filter.contacts.mapIdx (reassigned first last p) =
      (List.range 2048).map (fun c => reassigned first last p c (s.contact c)) := by
    refine List.ext_getElem (by simp [length]) fun n hn _ => ?_
    have place : n < s.filter.contacts.length := by simpa using hn
    simp [State.contact, List.getD_eq_getElem?_getD, List.getElem?_eq_getElem place]
  rw [State.assignCount, numbered, List.countP_map]
  rfl

section Assign

variable {s : State} {tag : Octet} {first last p : Nat} (serves : s.serves) (free : s.busy = false)
include serves free

theorem exec_assignProfile (low : p ≤ 15) (order : first ≤ last) (high : last ≤ 2047) :
    exec (.assignProfile tag first last p) s = .next (State.finish s
      ((s.changeContacts (s.assign first last p)).afterReply 0x99#8 tag .ok (oct2 (s.assignCount first last p)))) := by
  have range : ¬ (Config.contactProfiles ≤ p ∨ Config.contacts ≤ first ∨ Config.contacts ≤ last ∨ last < first) := by
    have profiles : Config.contactProfiles = 16 := rfl
    have contacts : Config.contacts = 2048 := rfl
    omega
  refine exec_okWith_finish serves rfl ?_
  simp only [serveRequest, serveAssignProfile, free, if_neg range]
  rfl

theorem exec_assignProfile_refused (misfit : 15 < p ∨ 2047 < first ∨ 2047 < last ∨ last < first) :
    exec (.assignProfile tag first last p) s = .next (s.afterReply 0x99#8 tag .badParam []) := by
  have range : Config.contactProfiles ≤ p ∨ Config.contacts ≤ first ∨ Config.contacts ≤ last ∨ last < first := misfit
  refine exec_unchanged serves rfl ?_
  simp only [serveRequest, serveAssignProfile, free, if_pos range]
  rfl

end Assign

/-- Settles O23: the contacts are changed by a map, and nothing that follows writes them. -/
theorem profilesTakeEffect : Obligations.ProfilesTakeEffect := by
  refine ⟨fun s tag p k h l flash serves => ⟨fun busy => ?_, exec_defineProfile_refused serves,
      fun free low fits new hn => ?_⟩,
    fun s tag first last p serves shaped => ⟨fun busy => ?_, exec_assignProfile_refused serves,
      fun free low order high => ?_⟩⟩
  · exact exec_unchanged serves rfl (by simp [serveRequest, serveDefineProfile, busy, refusal])
  · have run := exec_defineProfile (tag := tag) serves free low fits ((takenProfile_eq k h l flash).trans hn.symm)
    obtain ⟨t, ht⟩ : ∃ t, t = State.finish s (((s.setProfile p new).changeContacts (reprofile p (s.profile p) new
      s.filter.contacts)).afterReply 0x98#8 tag .ok new.octets) := ⟨_, rfl⟩
    have ground : SameGround ((s.setProfile p new).setContacts (reprofile p (s.profile p) new s.filter.contacts)) t :=
      ht ▸ State.finish_applyBatch_ground _ _ _ _ _ _ _
    rw [← ht] at run
    have contact : ∀ c, ((s.setProfile p new).setContacts (reprofile p (s.profile p) new s.filter.contacts)).contact c =
        if (s.contact c).profile = p then applyProfileChange (s.profile p) new (s.contact c)
        else s.contact c := fun c => by
      refine (s.setProfile p new).contact_map
        (f := fun c => if c.profile = p then applyProfileChange (s.profile p) new c else c) ?_ c
      split
      · exact applyProfileChange_fresh _ _
      · rfl
    refine ⟨reprofile p (s.profile p) new s.filter.contacts, _, t, run, rfl, ht, State.applyBatch_link _ _,
      by simp [reprofile], ground.filter, fun c => ?_, fun c other => ?_, fun c own => ?_, ground.scanner, ground.flash,
      ground.index, ground.power, ground.time, ground.straps, ground.store, ground.inhibit, ground.pending⟩
    · refine (congrArg Contact.profile ((ground.contact c).trans (contact c))).trans ?_
      split
      · exact applyProfileChange_profile _ _ _
      · rfl
    · exact (ground.contact c).trans ((contact c).trans (if_neg other))
    · refine profileChanged_of _ _ _ _ ?_
      have changed := (ground.contact c).trans ((contact c).trans (if_pos own))
      rw [changed]
  · exact exec_unchanged serves rfl (by simp [serveRequest, serveAssignProfile, busy, refusal])
  · have length : s.filter.contacts.length = 2048 := shaped.contacts
    have run := exec_assignProfile (tag := tag) serves free low order high
    rw [State.assignCount_eq length] at run
    obtain ⟨t, ht⟩ : ∃ t, t = State.finish s ((s.changeContacts (s.assign first last p)).afterReply 0x99#8 tag .ok
      (oct2 ((List.range 2048).countP
        (fun c => decide (first ≤ c) && decide (c ≤ last) && decide ((s.contact c).profile ≠ p))))) := ⟨_, rfl⟩
    have ground : SameGround (s.setContacts (s.assign first last p)) t :=
      ht ▸ State.finish_applyBatch_ground _ _ _ _ _ _ _
    rw [← ht] at run
    have contact : ∀ c, c < s.filter.contacts.length → (s.setContacts (s.assign first last p)).contact c =
        if reassigned first last p c (s.contact c)
        then { applyProfileChange (s.profile (s.contact c).profile) (s.profile p) (s.contact c) with profile := p }
        else s.contact c := fun c place => s.contact_mapIdx place
    refine ⟨s.assign first last p, _, t, run, rfl, ht, State.applyBatch_link _ _, by simp [State.assign],
      congrArg Filter.contacts ground.filter, fun c above below ne => ?_, fun c out => ?_,
      by rw [ground.filter]; rfl, ground.scanner, ground.flash, ground.index, ground.power, ground.time,
      ground.straps, ground.store, ground.inhibit, ground.pending⟩
    · have changed :=
        (ground.contact c).trans ((contact c (by omega)).trans (if_pos (reassigned_iff.mpr ⟨above, below, ne⟩)))
      rw [changed]
      exact ⟨rfl, profileChanged_of _ _ _ _ rfl⟩
    · refine (ground.contact c).trans ?_
      by_cases place : c < s.filter.contacts.length
      · refine (contact c place).trans (if_neg fun yes => ?_)
        obtain ⟨above, below, ne⟩ := reassigned_iff.mp yes
        obtain low | high | same := out
        · omega
        · omega
        · exact ne same
      · exact s.contact_mapIdx_beyond (Nat.le_of_not_lt place)

end Sys2Proof.Machine
end

section
/-! PROOFS. The definition of a flash profile (R38, R39). -/

namespace Sys2Proof.Machine

/-- The values taken are the six values clamped (R38). -/
theorem takenFlash_eq (a b c d f : Nat) (active : Level) : takenFlash a b c d f active =
    ⟨min (max a 100) 10000, min (max b 100) 10000, min (max c 1) 99, min (max d 1) 99, min (max f 1) 4, active⟩ := by
  have period : ∀ n, clampPeriodLimit n = min (max n 100) 10000 := clamp_eq_min_max (by decide)
  have duty : ∀ n, clampDuty n = min (max n 1) 99 := clamp_eq_min_max (by decide)
  have confirm : clampConfirm f = min (max f 1) 4 := clamp_eq_min_max (by decide) f
  rw [takenFlash, period, period, duty, duty, confirm]

/-- The code of a level read back from its code. -/
theorem senseCode_of_le {v : Nat} (low : v ≤ 1) : senseCode (if v = 0 then .closed else .opened) = v := by
  obtain rfl | rfl : v = 0 ∨ v = 1 := by omega
  · rfl
  · rfl

section DefineFlash

variable {s : State} {tag : Octet} {p a b c d f v : Nat} (serves : s.serves)

include serves in
theorem exec_defineFlash_busy (busy : s.busy = true) :
    exec (.defineFlash tag p a b c d f v) s = .next (s.afterReply 0x9A#8 tag .busy []) :=
  exec_unchanged serves rfl (by simp [serveRequest, serveDefineFlash, busy, refusal])

variable (free : s.busy = false)
include serves free

theorem exec_defineFlash_misfit (misfit : 7 < p ∨ 1 < v) :
    exec (.defineFlash tag p a b c d f v) s = .next (s.afterReply 0x9A#8 tag .badParam []) := by
  have eight : Config.flashProfiles = 8 := rfl
  refine exec_unchanged serves rfl ?_
  simp only [serveRequest, serveDefineFlash, free]
  by_cases range : Config.flashProfiles ≤ p
  · rw [if_pos range]
    rfl
  · rw [if_neg range, senseOf_of_gt (misfit.resolve_left (by omega))]
    rfl

variable (low : p ≤ 7) (level : v ≤ 1) {new : FlashProfile}
  (hn : takenFlash a b c d f (if v = 0 then .closed else .opened) = new)
include low level hn

theorem exec_defineFlash_crossed (crossed : new.pMax < new.pMin ∨ new.dMax < new.dMin) :
    exec (.defineFlash tag p a b c d f v) s = .next (s.afterReply 0x9A#8 tag .badParam []) := by
  have range : ¬ Config.flashProfiles ≤ p := Nat.not_le_of_lt (Nat.lt_succ_of_le low)
  refine exec_unchanged serves rfl ?_
  simp only [serveRequest, serveDefineFlash, free, if_neg range, senseOf_of_le level, hn, if_pos crossed]
  rfl

variable (periods : new.pMin ≤ new.pMax) (duties : new.dMin ≤ new.dMax)
include periods duties

omit serves in
/-- What a definition within its ranges serves. -/
theorem serveDefineFlash_taken : serveDefineFlash p a b c d f v s =
    ((s.defineFlash p new).1, okWith (new.octets ++ oct2 (s.defineFlash p new).2)) := by
  have range : ¬ Config.flashProfiles ≤ p := Nat.not_le_of_lt (Nat.lt_succ_of_le low)
  have ordered : ¬ (new.pMax < new.pMin ∨ new.dMax < new.dMin) := by omega
  simp only [serveDefineFlash, free, if_neg range, senseOf_of_le level, hn, if_neg ordered]
  rfl

theorem exec_defineFlash_same (same : s.flash.getD p .standard = new) :
    exec (.defineFlash tag p a b c d f v) s = .next (s.afterReply 0x9A#8 tag .ok (new.octets ++ oct2 0)) := by
  refine exec_unchanged serves rfl ?_
  have served := serveDefineFlash_taken free low level hn periods duties
  rw [State.defineFlash, if_pos same] at served
  exact served

theorem exec_defineFlash_changed (changed : s.flash.getD p .standard ≠ new) :
    exec (.defineFlash tag p a b c d f v) s = .next (State.finish s
      (((s.setFlash p new).changeContacts
          (s.filter.contacts.map (fun c => if s.governedBy p c then { c with flash := .cleared } else c))).afterReply
        0x9A#8 tag .ok (new.octets ++ oct2 (s.filter.contacts.countP (s.governedBy p))))) := by
  have served := serveDefineFlash_taken free low level hn periods duties
  rw [State.defineFlash, if_neg changed] at served
  generalize (s.setFlash p new).changeContacts _ = u at served ⊢
  exact exec_okWith_finish serves rfl served

end DefineFlash

/-- Settles O24: a definition that changes the profile clears the flash records it governs by a map of the contacts. -/
theorem defineFlashTakesEffect : Obligations.DefineFlashTakesEffect := by
  intro s tag p a b c d f v serves
  refine ⟨exec_defineFlash_busy serves, exec_defineFlash_misfit serves, fun free low level new hn => ?_⟩
  have taken : takenFlash a b c d f (if v = 0 then .closed else .opened) = new := (takenFlash_eq ..).trans hn.symm
  refine ⟨exec_defineFlash_crossed serves free low level taken, fun periods duties octets ho => ?_⟩
  have written : new.octets = octets := by
    have active : new.active = if v = 0 then .closed else .opened := by rw [hn]
    rw [ho, FlashProfile.octets, active, senseCode_of_le level]
  refine ⟨fun same => ?_, fun old was ne => ?_⟩
  · rw [← written]
    exact exec_defineFlash_same serves free low level taken periods duties (by
      rw [List.getD_eq_getElem?_getD, same, Option.getD_some])
  · have run := exec_defineFlash_changed (tag := tag) serves free low level taken periods duties (by
      rw [List.getD_eq_getElem?_getD, was, Option.getD_some]
      exact ne)
    rw [written] at run
    let contacts := s.filter.contacts.map (fun c => if s.governedBy p c then { c with flash := .cleared } else c)
    obtain ⟨t, ht⟩ : ∃ t, t = State.finish s (((s.setFlash p new).changeContacts contacts).afterReply 0x9A#8 tag .ok
      (octets ++ oct2 (s.filter.contacts.countP (s.governedBy p)))) := ⟨_, rfl⟩
    have ground : SameGround ((s.setFlash p new).setContacts contacts) t :=
      ht ▸ State.finish_applyBatch_ground _ _ _ _ _ _ _
    rw [← ht] at run
    have contact : ∀ x, t.contact x =
        if s.governedBy p (s.contact x) then { s.contact x with flash := .cleared } else s.contact x := fun x => by
      refine (ground.contact x).trans ((s.setFlash p new).contact_map
        (f := fun c => if s.governedBy p c then { c with flash := .cleared } else c) ?_ x)
      split
      · rfl
      · rfl
    refine ⟨contacts, _, t, run, rfl, ht, State.applyBatch_link _ _, List.length_map _, by rw [ground.filter]; rfl,
      ground.flash, fun x governed => ?_, fun x free => ?_, by rw [ground.filter]; rfl, ground.scanner, ground.index,
      ground.power, ground.time, ground.straps, ground.store, ground.inhibit, ground.pending⟩
    · exact (contact x).trans (if_pos (decide_eq_true governed))
    · exact (contact x).trans (if_neg fun yes => free (of_decide_eq_true yes))

end Sys2Proof.Machine
end

section
/-! PROOFS. Modules taken out of service and put back (R13, R14). -/

namespace Sys2Proof.Machine

/-! ### The end of an event -/

/-- A property that every expiry at once, and every choice of the transmitter, keeps. -/
theorem State.finish_of_expiries {P : State → Prop} (choose : ∀ s, P s → P s.chooseFrame)
    (expired : ∀ s n e, P s → P (s.expireTimer n e)) (ended : ∀ s k rep, P s → P (s.endOperation k rep))
    {before s : State} (h : P s) : P (State.finish before s) := by
  have objects : ∀ (u : State) (n : Nat), P u → P (State.expireAtOnce before u n) := by
    intro u n hu
    unfold State.expireAtOnce
    split
    · exact hu
    · split
      · exact choose _ (expired _ _ _ hu)
      · exact hu
  have slots : ∀ (u : State) (k : Nat), P u → P (State.endZeroWatch before u k) := by
    intro u k hu
    unfold State.endZeroWatch
    split
    · split
      · exact choose _ (ended _ _ _ hu)
      · exact hu
    · exact hu
  exact kept_foldl slots _ (kept_foldl objects _ (choose _ h))

/-! ### What hands over changes and ends alone -/

/-- A property that the press unit, the rewriting of object records, and the handing over of changes and of ends keep.
No item of a module or an output is taken back under it. -/
structure KeptByHandOver (P : State → Prop) : Prop where
  press : ∀ s t, OnlyPress s t → P s → P t
  objects : ∀ s x, P s → P (s.setObjects x)
  change : ∀ s c, P s → P (s.handChange c)
  ended : ∀ s k rep, P s → P (s.endOperation k rep)

namespace KeptByHandOver

variable {P : State → Prop} (K : KeptByHandOver P)
include K

theorem handToPress {s : State} {cs : List Change} (h : P s) : P (s.handToPress cs) := by
  refine kept_foldl (fun u k hu => ?_) _ h
  obtain e | ⟨rep, e⟩ := State.judgeWatch_or cs u k
  · rw [e]
    exact hu
  · rw [e]
    exact K.ended _ _ _ hu

theorem enterWatching {s : State} {k : Nat} {op : Operation} (h : P s) : P (s.enterWatching k op) := by
  have unclaimed : P (s.unclaim k) := K.press s (s.unclaim k) rfl h
  have watching : P ((s.unclaim k).setSlot k (.watching op ((s.unclaim k).time + op.watch))) :=
    K.press (s.unclaim k) _ rfl unclaimed
  unfold State.enterWatching
  dsimp only
  split
  · exact K.ended _ _ _ unclaimed
  · split
    · exact K.ended _ _ _ unclaimed
    · split
      · exact K.ended _ _ _ watching
      · exact watching

theorem releaseDone {s : State} {k : Nat} (h : P s) : P (s.releaseDone k) := by
  unfold State.releaseDone
  split
  · exact h
  · split
    · exact K.enterWatching h
    · split
      · exact K.press _ _ (State.stepDue_onlyPress _ _ _) h
      · exact K.press s _ rfl h

theorem completeRelease {s : State} {o : Nat} (h : P s) : P (s.completeRelease o) := by
  unfold State.completeRelease
  dsimp only
  split
  · exact K.releaseDone (K.press s (s.setOutput o _) rfl h)
  · exact K.press s (s.setOutput o _) rfl h

theorem judgeReadbacks {s : State} {entries : List BatchEntry} (h : P s) : P (s.judgeReadbacks entries) := by
  refine kept_foldl (fun u o hu => ?_) _ h
  unfold State.judgeRelease
  dsimp only
  split
  · split
    · exact hu
    · split
      · exact K.completeRelease hu
      · exact hu
  · exact hu

theorem resolve {s : State} {n : Nat} {cause : ChangeCause} {stamp : Stamp} {expired : Bool} (h : P s) :
    P (s.resolve n cause stamp expired).1 := by
  unfold State.resolve
  split
  · dsimp only
    unfold State.handOn
    split
    · exact K.objects _ _ h
    · exact K.change _ _ (K.objects _ _ h)
  · exact h

theorem resolveBatch {s : State} {entries : List BatchEntry} (h : P s) : P (s.resolveBatch entries).1 := by
  unfold State.resolveBatch
  generalize List.range s.table.objects.length = ns
  have gen : ∀ acc : State × List Change, P acc.1 →
      P (ns.foldl (State.resolveHits (hitsOf s.table.index entries)) acc).1 := by
    induction ns with
    | nil => exact fun acc ha => ha
    | cons n ns ih =>
      refine fun acc ha => ih _ ?_
      unfold State.resolveHits
      split
      · exact ha
      · exact K.resolve ha
  exact gen _ h

theorem applyBatch {s : State} {entries : List BatchEntry} (h : P s) : P (s.applyBatch entries) :=
  K.judgeReadbacks (K.handToPress (K.resolveBatch h))

theorem expireTimer {s : State} {n : Nat} {e : Stamp} (h : P s) : P (s.expireTimer n e) :=
  K.handToPress (K.resolve (K.objects _ _ h))

end KeptByHandOver

/-- A MODULE item the journal has stays while a frame is being sent: none is taken back (R101, R103). -/
theorem hasModuleItem_keptByHandOver (i : ModuleItem) (l : Link) :
    KeptByHandOver (fun s => s.hasModuleItem i ∧ s.link = l) where
  press s t only h := ⟨(by
    rw [State.hasModuleItem, State.lane_of_journal only.journal, only.journal]
    exact h.1), only.link.trans h.2⟩
  objects _ _ h := h
  change s c h := ⟨(s.handChange_keepsItems c).modules i h.1, (link_kept l).handChange h.2⟩
  ended s k rep h := ⟨(s.endOperation_keeps k rep).1 i h.1, (s.endOperation_link k rep).trans h.2⟩

theorem State.hasModuleItem_finish {before s : State} {i : ModuleItem} (sending : s.link.sending.isSome = true)
    (h : s.hasModuleItem i) : (State.finish before s).hasModuleItem i := by
  have K := hasModuleItem_keptByHandOver i s.link
  refine (State.finish_of_expiries (P := fun t => t.hasModuleItem i ∧ t.link = s.link) (fun t ht => ?_)
    (fun _ _ _ => K.expireTimer) (fun _ _ _ => K.ended _ _ _) ⟨h, rfl⟩).1
  rw [State.chooseFrame_of_sending (ht.2 ▸ sending)]
  exact ht

theorem State.hasModuleItem_applyBatch {s : State} {i : ModuleItem} (entries : List BatchEntry)
    (h : s.hasModuleItem i) :
    (s.applyBatch entries).hasModuleItem i :=
  ((hasModuleItem_keptByHandOver i s.link).applyBatch ⟨h, rfl⟩).1

/-! ### The contacts of a module -/

theorem mappedToSlot_iff {ms : List ModuleRecord} {slot c : Nat} : mappedToSlot ms slot c = true ↔
    ∃ n input x, mappedAt ms c = some (n, input) ∧ ms[n]? = some x ∧ x.slot = slot := by
  unfold mappedToSlot
  cases mapped : mappedAt ms c with
  | none => simp
  | some place =>
    obtain ⟨n, input⟩ := place
    cases here : ms[n]? with
    | none => simp [here]
    | some x => simp [here]

theorem State.contact_beyond {s : State} {c : Nat} (beyond : s.filter.contacts.length ≤ c) : s.contact c =
    .fresh 0 := by
  rw [State.contact, List.getD_eq_getElem?_getD, List.getElem?_eq_none beyond]
  rfl

theorem State.contact_loseSlot_mapped (s : State) {ms : List ModuleRecord} {slot c : Nat}
    (mapped : mappedToSlot ms slot c = true) :
    (s.setContacts (loseSlot ms slot s.filter.contacts)).contact c = .fresh (s.contact c).profile := by
  unfold loseSlot
  obtain place | beyond := Nat.lt_or_ge c s.filter.contacts.length
  · rw [s.contact_mapIdx place, if_pos mapped]
    rfl
  · rw [s.contact_mapIdx_beyond beyond, State.contact_beyond beyond]
    rfl

theorem State.contact_loseSlot_other (s : State) {ms : List ModuleRecord} {slot c : Nat}
    (other : mappedToSlot ms slot c = false) :
    (s.setContacts (loseSlot ms slot s.filter.contacts)).contact c = s.contact c := by
  unfold loseSlot
  obtain place | beyond := Nat.lt_or_ge c s.filter.contacts.length
  · rw [s.contact_mapIdx place, if_neg (by simp [other])]
  · exact s.contact_mapIdx_beyond beyond

/-! ### MODULE-SERVICE (R13, R14) -/

section ModuleService

variable {s : State} {tag : Octet} {slot : Nat} (serves : s.serves)
include serves

theorem exec_moduleServiceOut_refused :
    (s.busy = true → exec (.moduleServiceOut tag slot) s = .next (s.afterReply 0x92#8 tag .busy [])) ∧
      (s.busy = false → 31 < slot →
        exec (.moduleServiceOut tag slot) s = .next (s.afterReply 0x92#8 tag .badParam [])) ∧
      (s.busy = false → slot ≤ 31 → (∀ m ∈ s.scanner.modules, m.slot ≠ slot) →
        exec (.moduleServiceOut tag slot) s = .next (s.afterReply 0x92#8 tag .notDefined [])) := by
  refine ⟨fun busy => ?_, fun free above => ?_, fun free le absent => ?_⟩
  · exact exec_unchanged serves rfl (by simp [serveRequest, serveModuleServiceOut, busy, refusal])
  · exact exec_unchanged serves rfl
      (by simp [serveRequest, serveModuleServiceOut, free, moduleSlots_le_iff, above, refusal])
  · exact exec_unchanged serves rfl (by
      simp [serveRequest, serveModuleServiceOut, free, moduleSlots_le_iff, Nat.not_lt_of_le le, findModule_none absent,
        refusal])

theorem exec_moduleServiceIn_refused :
    (s.busy = true → exec (.moduleServiceIn tag slot) s = .next (s.afterReply 0x92#8 tag .busy [])) ∧
      (s.busy = false → 31 < slot →
        exec (.moduleServiceIn tag slot) s = .next (s.afterReply 0x92#8 tag .badParam [])) ∧
      (s.busy = false → slot ≤ 31 → (∀ m ∈ s.scanner.modules, m.slot ≠ slot) →
        exec (.moduleServiceIn tag slot) s = .next (s.afterReply 0x92#8 tag .notDefined [])) := by
  refine ⟨fun busy => ?_, fun free above => ?_, fun free le absent => ?_⟩
  · exact exec_unchanged serves rfl (by simp [serveRequest, serveModuleServiceIn, busy, refusal])
  · exact exec_unchanged serves rfl
      (by simp [serveRequest, serveModuleServiceIn, free, moduleSlots_le_iff, above, refusal])
  · exact exec_unchanged serves rfl (by
      simp [serveRequest, serveModuleServiceIn, free, moduleSlots_le_iff, Nat.not_lt_of_le le, findModule_none absent,
        refusal])

variable {m : ModuleRecord} (free : s.busy = false) (le : slot ≤ 31)
  (found : s.scanner.modules.find? (fun x => x.slot = slot) = some m)
include free le found

theorem exec_moduleServiceOut_badState (out : m.state = .outOfService) :
    exec (.moduleServiceOut tag slot) s = .next (s.afterReply 0x92#8 tag .badState []) := by
  have found : findModule s.scanner.modules slot = some m := found
  exact exec_unchanged serves rfl (by
    simp [serveRequest, serveModuleServiceOut, free, moduleSlots_le_iff, Nat.not_lt_of_le le, found, out, refusal])

theorem exec_moduleServiceIn_badState (serving : m.state ≠ .outOfService) :
    exec (.moduleServiceIn tag slot) s = .next (s.afterReply 0x92#8 tag .badState []) := by
  have found : findModule s.scanner.modules slot = some m := found
  exact exec_unchanged serves rfl (by
    simp [serveRequest, serveModuleServiceIn, free, moduleSlots_le_iff, Nat.not_lt_of_le le, found, serving, refusal])

theorem exec_moduleServiceOut (serving : m.state ≠ .outOfService) : exec (.moduleServiceOut tag slot) s =
    .next (State.finish s ((s.takeModuleOut slot).afterReply 0x92#8 tag .ok [])) := by
  have found : findModule s.scanner.modules slot = some m := found
  have served : serveRequest (.moduleServiceOut tag slot) s = (s.takeModuleOut slot, okWith []) := by
    simp [serveRequest, serveModuleServiceOut, free, moduleSlots_le_iff, Nat.not_lt_of_le le, found, serving]
  generalize s.takeModuleOut slot = u at served ⊢
  exact exec_okWith_finish serves rfl served

theorem exec_moduleServiceIn (out : m.state = .outOfService) : exec (.moduleServiceIn tag slot) s =
    .next ((s.putModuleBack slot).afterReply 0x92#8 tag .ok []) := by
  have found : findModule s.scanner.modules slot = some m := found
  have served : serveRequest (.moduleServiceIn tag slot) s = (s.putModuleBack slot, okWith []) := by
    simp [serveRequest, serveModuleServiceIn, free, moduleSlots_le_iff, Nat.not_lt_of_le le, found, out]
  have handed : SameRelays (s.setScanner ((s.scanner.setModule slot .putBack).discard slot)) (s.putModuleBack slot) :=
    State.handModule_sameRelays _ _
  generalize s.putModuleBack slot = u at served handed ⊢
  exact exec_okWith serves rfl served (fun n => handed.timers n) (fun k => handed.watching k)

end ModuleService

/-- Settles O12: the item is handed over before the batch, and neither the batch nor what follows takes it back. -/
theorem modulesChangeService : Obligations.ModulesChangeService := by
  refine ⟨fun s tag slot serves => ?_, fun s tag slot serves => ?_⟩
  · obtain ⟨busy, above, absent⟩ := exec_moduleServiceOut_refused (tag := tag) (slot := slot) serves
    refine ⟨busy, above, absent, fun m free le found => ⟨exec_moduleServiceOut_badState serves free le found,
      fun serving shaped => ?_⟩⟩
    have run := exec_moduleServiceOut (tag := tag) serves free le found serving
    obtain ⟨x, hx⟩ : ∃ x, x = (s.scanner.setModule slot .takenOut).discard slot := ⟨_, rfl⟩
    obtain ⟨v, hv⟩ : ∃ v, v = (s.setScanner x).handModule ⟨slot, .outOfService, none, s.time⟩ := ⟨_, rfl⟩
    have handed : SameRelays (s.setScanner x) v := hv ▸ State.handModule_sameRelays _ _
    obtain ⟨contacts, hc⟩ : ∃ contacts, contacts = loseSlot s.scanner.modules slot s.filter.contacts := ⟨_, rfl⟩
    obtain ⟨u, hu⟩ : ∃ u, u = (v.setContacts contacts).applyBatch (requestBatch s.time s.filter.contacts contacts) :=
      ⟨_, rfl⟩
    have taken : s.takeModuleOut slot = u := by
      rw [hu, hc, hv, hx]
      rfl
    rw [taken] at run
    have item : u.hasModuleItem ⟨slot, .outOfService, none, s.time⟩ := by
      have length : s.journal.modulePending.length = 32 := shaped.modulePending
      have held : v.hasModuleItem ⟨slot, .outOfService, none, s.time⟩ := by
        rw [hv]
        exact State.hasModuleItem_handModule (show slot < s.journal.modulePending.length by omega)
      rw [hu]
      exact State.hasModuleItem_applyBatch (s := v.setContacts contacts) _ held
    obtain ⟨t, ht⟩ : ∃ t, t = State.finish s (u.afterReply 0x92#8 tag .ok []) := ⟨_, rfl⟩
    have ground : SameGround (v.setContacts contacts) t := by
      rw [ht, hu]
      exact State.finish_applyBatch_ground _ _ _ _ _ _ _
    have kept : t.hasModuleItem ⟨slot, .outOfService, none, s.time⟩ := by
      rw [ht]
      exact State.hasModuleItem_finish (s := u.afterReply 0x92#8 tag .ok []) (Link.answered_sending _ _) item
    rw [← ht] at run
    have link : u.link = s.link := by
      rw [hu, State.applyBatch_link]
      exact hv ▸ (link_kept s.link).handModule rfl
    have contact : ∀ c, t.contact c = (s.setContacts contacts).contact c := fun c => ground.contact c
    refine ⟨x, contacts, v, u, t, run, hx, hv, hu, ht, link, ?_, ?_, fun c n input x mapped here own => ?_,
      fun c other => ?_, ground.scanner.trans handed.scanner, kept, ?_, ground.flash.trans handed.flash,
      ground.index.trans handed.index, ground.power.trans handed.power, ground.time.trans handed.time,
      ground.straps.trans handed.straps, ground.store.trans handed.store, ground.inhibit.trans handed.inhibit,
      ground.pending.trans handed.pending⟩
    · rw [hc]
      exact List.length_mapIdx
    · rw [ground.filter]
      rfl
    · rw [contact, hc, s.contact_loseSlot_mapped (mappedToSlot_iff.mpr ⟨n, input, x, mapped, here, own⟩)]
      rfl
    · rw [contact, hc]
      refine s.contact_loseSlot_other (Bool.eq_false_iff.mpr fun yes => ?_)
      obtain ⟨n, input, x, mapped, here, own⟩ := mappedToSlot_iff.mp yes
      exact other n input x mapped here own
    · rw [ground.filter]
      have profiles : v.filter.profiles = s.filter.profiles := by rw [handed.filter]; rfl
      exact profiles
  · obtain ⟨busy, above, absent⟩ := exec_moduleServiceIn_refused (tag := tag) (slot := slot) serves
    refine ⟨busy, above, absent, fun m free le found => ⟨exec_moduleServiceIn_badState serves free le found,
      fun out shaped => ?_⟩⟩
    have length : s.journal.modulePending.length = 32 := shaped.modulePending
    exact ⟨_, s.putModuleBack slot, exec_moduleServiceIn serves free le found out, rfl, rfl,
      (link_kept s.link).handModule rfl, State.handModule_sameRelays _ _,
      State.hasModuleItem_handModule (show slot < s.journal.modulePending.length by omega)⟩

end Sys2Proof.Machine
end

section
/-! PROOFS. A scan completion: what the filter is given, the batch, and what it does to each object (R8, R26, R35, R65,
R71, R72, R95, R130). -/

namespace Sys2Proof.Machine

/-! ### What a completion brings a contact (R26, R37) -/

theorem State.filterContacts_getElem? {s : State} {n : Nat} {c : Contact} (here : s.filter.contacts[n]? = some c)
    (time : Stamp) (outcomes : List ModuleOutcome) : (s.filterContacts time outcomes)[n]? =
      some (filterContact (s.profile c.profile) (s.flashOf (s.profile c.profile)) time
        (contactInput outcomes n) c) := by
  rw [State.filterContacts, List.getElem?_mapIdx, here]
  rfl

/-- The flash profile that governs, told by its number. -/
theorem State.flashOf_eq {s : State} {p : ContactProfile} {flash : Option FlashProfile}
    (ungoverned : p.flash = none → flash = none)
    (governed : ∀ f, p.flash = some f → flash ≠ none ∧ flash = s.flash[f]?) : s.flashOf p = flash := by
  unfold State.flashOf
  cases number : p.flash with
  | none => exact (ungoverned number).symm
  | some f =>
    obtain ⟨there, rfl⟩ := governed f number
    obtain ⟨x, hx⟩ := Option.ne_none_iff_exists'.mp there
    rw [Option.map_some, List.getD_eq_getElem?_getD, hx, Option.getD_some]

theorem contactInput_of_unmapped {outcomes : List ModuleOutcome} {c : Nat}
    (unmapped : mappedAt (outcomes.map (·.record)) c = none) : contactInput outcomes c = ⟨false, none⟩ := by
  rw [contactInput, unmapped]

theorem contactInput_of_mapped {outcomes : List ModuleOutcome} {c n input : Nat} {o : ModuleOutcome}
    (mapped : mappedAt (outcomes.map (·.record)) c = some (n, input)) (here : outcomes[n]? = some o) :
    contactInput outcomes c = ⟨o.lost, o.samples.map (fun b => inputLevel b input)⟩ := by
  simp only [contactInput, mapped, here]

/-! ### The batch (R35) -/

theorem batchEntry_eq_some_iff {n : Nat} {old new : Contact} {stamp : Stamp} {e : BatchEntry} :
    batchEntry n old new stamp = some e ↔
      (old.accepted ≠ new.accepted ∨ levelView old false ≠ levelView new false ∨
        lampView old false ≠ lampView new false) ∧
      e = ⟨n, new.accepted, levelView new false, lampView new false, old.accepted ≠ new.accepted,
        levelView old false ≠ levelView new false, lampView old false ≠ lampView new false, stamp⟩ := by
  unfold batchEntry
  split
  next differs => exact ⟨fun h => ⟨differs, (Option.some.inj h).symm⟩, fun ⟨_, h⟩ => congrArg some h.symm⟩
  next same => exact ⟨nofun, fun ⟨differs, _⟩ => absurd differs same⟩

theorem batchEntry_contact {n : Nat} {old new : Contact} {stamp : Stamp} {e : BatchEntry}
    (h : batchEntry n old new stamp = some e) : e.contact = n := by
  rw [(batchEntry_eq_some_iff.mp h).2]

/-- Each contact has one entry at most, in ascending order. -/
theorem batchEntries_ascending (time : Stamp) (first : Nat) (olds : List Contact)
    (news : List (Contact × Option Stamp)) :
    ((batchEntries time first olds news).map (·.contact)).Pairwise (· < ·) := by
  induction olds generalizing first news with
  | nil => exact .nil
  | cons old olds ih =>
    cases news with
    | nil => exact .nil
    | cons new news =>
      obtain ⟨new, stamp⟩ := new
      rw [batchEntries, List.map_append, List.pairwise_append]
      refine ⟨?_, ih _ _, fun a ha b hb => ?_⟩
      · cases batchEntry first old new (stamp.getD time) with
        | none => exact .nil
        | some e => exact List.pairwise_singleton _ _
      · obtain ⟨e, he, rfl⟩ := List.mem_map.mp ha
        obtain ⟨e', he', rfl⟩ := List.mem_map.mp hb
        obtain ⟨n, _, _, _, _, _, entry⟩ := mem_batchEntries.mp he'
        rw [batchEntry_contact (Option.mem_toList.mp he), batchEntry_contact entry]
        omega

theorem BatchEntry.changes_iff {e : BatchEntry} {v : ViewKind} :
    e.changes v = true ↔ (v = .level ∧ e.levelChanged = true) ∨ (v = .lamp ∧ e.lampChanged = true) := by
  cases v with
  | level => simp [BatchEntry.changes]
  | lamp => simp [BatchEntry.changes]

theorem mem_hitsOf {index : List IndexEntry} {entries : List BatchEntry} {h : Hit} : h ∈ hitsOf index entries ↔
    ∃ e ∈ entries, ∃ x ∈ index, x.contact = e.contact ∧
      ((x.view = .level ∧ e.levelChanged = true) ∨ (x.view = .lamp ∧ e.lampChanged = true)) ∧
      h = ⟨x.object, e.stamp, e.accepted.isNone⟩ := by
  simp only [hitsOf, List.mem_flatMap, List.mem_filterMap, Option.ite_none_right_eq_some, Option.some.injEq,
    BatchEntry.changes_iff, and_assoc, eq_comm (a := h)]

/-! ### The resolution of one object (R71, R72) -/

section Hits

variable {hits : List Hit} {n : Nat}

theorem State.resolveHits_of_unreached (unreached : hits.filter (fun h => h.object = n) = [])
    (acc : State × List Change) : State.resolveHits hits acc n = acc := by
  rw [State.resolveHits, unreached]

/-- The stamp is the latest of its hits, the cause MODULE where one of them lost its level. -/
theorem State.resolveHits_of_reached {mine : List Hit} (own : mine = hits.filter (fun h => h.object = n))
    (acc : State × List Change) {cause : ChangeCause} {stamp : Stamp} (reached : mine ≠ [])
    (why : cause = if ∃ h ∈ mine, h.lost = true then ChangeCause.module else .contact)
    (last : ∃ h ∈ mine, h.stamp = stamp) (bound : ∀ h ∈ mine, h.stamp ≤ stamp) :
    State.resolveHits hits acc n = ((acc.1.resolve n cause stamp false).1,
      acc.2 ++ (acc.1.resolve n cause stamp false).2.toList) := by
  obtain ⟨h, hs, split⟩ := List.exists_cons_of_ne_nil reached
  have cause' : (if (h :: hs).any (·.lost) then ChangeCause.module else .contact) = cause := by
    rw [why, split]
    simp only [List.any_eq_true]
  have latest' : latest h.stamp (hs.map (·.stamp)) = stamp := by
    rw [split] at last bound
    refine latest_eq (bound h List.mem_cons_self) (fun t ht => ?_) ?_
    · obtain ⟨x, hx, rfl⟩ := List.mem_map.mp ht
      exact bound x (List.mem_cons_of_mem _ hx)
    · obtain ⟨x, hx, rfl⟩ := last
      exact (List.mem_cons.mp hx).imp (congrArg Hit.stamp) (List.mem_map_of_mem (f := Hit.stamp))
  rw [State.resolveHits, ← own, split]
  dsimp only
  rw [cause', latest']

/-- A hit list's turn is no change or one resolution. -/
theorem State.resolveHits_cases (acc : State × List Change) (hits : List Hit) (n : Nat) :
    State.resolveHits hits acc n = acc ∨
      ∃ cause stamp, (State.resolveHits hits acc n).1 = (acc.1.resolve n cause stamp false).1 := by
  unfold State.resolveHits
  split
  · exact .inl rfl
  · exact .inr ⟨_, _, rfl⟩

end Hits

/-- `t` has the contacts of `s`, and object n but for its mark. -/
def SameFor (n : Nat) (s t : State) : Prop :=
  (s.object n).sameState (t.object n) ∧ t.filter.contacts = s.filter.contacts

theorem SameFor.trans {n : Nat} {a b c : State} (h : SameFor n a b) (k : SameFor n b c) : SameFor n a c :=
  ⟨h.1.trans k.1, k.2.trans h.2⟩

/-- The turns of other objects leave object n alone. -/
theorem State.foldl_resolveHits_other {hits : List Hit} {n : Nat} {ns : List Nat} (other : n ∉ ns)
    (acc : State × List Change) : SameFor n acc.1 (ns.foldl (State.resolveHits hits) acc).1 := by
  induction ns generalizing acc with
  | nil => exact ⟨rfl, rfl⟩
  | cons m ns ih =>
    have ne : m ≠ n := fun e => other (e ▸ List.mem_cons_self)
    refine SameFor.trans ?_ (ih (fun mem => other (List.mem_cons_of_mem _ mem)) _)
    obtain e | ⟨cause, stamp, e⟩ := State.resolveHits_cases acc hits m
    · rw [e]
      exact ⟨rfl, rfl⟩
    · rw [e]
      exact ⟨State.resolve_object_ne ne, State.resolve_contacts _ _ _ _ _⟩

/-- Object n has one turn in a batch; it finds the object as the batch found it, and leaves it as the batch does. -/
theorem State.resolveBatch_turn {s : State} {n : Nat} (place : n < s.table.objects.length) (entries : List BatchEntry) :
    ∃ acc : State × List Change, SameFor n s acc.1 ∧
      SameFor n (State.resolveHits (hitsOf s.table.index entries) acc n).1 (s.resolveBatch entries).1 := by
  obtain ⟨before, after, split⟩ := List.append_of_mem (List.mem_range.mpr place)
  have nodup : (before ++ n :: after).Nodup := split ▸ List.nodup_range
  rw [List.nodup_middle, List.nodup_cons, List.mem_append, not_or] at nodup
  obtain ⟨⟨early, late⟩, -⟩ := nodup
  refine ⟨before.foldl (State.resolveHits (hitsOf s.table.index entries)) (s, []),
    State.foldl_resolveHits_other early (s, []), ?_⟩
  rw [State.resolveBatch, split, List.foldl_append, List.foldl_cons]
  exact State.foldl_resolveHits_other late _

/-- A rule reads nothing but the contacts. -/
theorem State.rule_of_contacts {s t : State} (h : t.filter.contacts = s.filter.contacts) (d : Definition)
    (old : Presented) (expired : Bool) : t.rule d old expired = s.rule d old expired := by
  have contact : t.contact = s.contact := by
    funext c
    rw [State.contact, State.contact, h]
  have level : t.levelOf = s.levelOf := by
    funext r
    rw [State.levelOf, State.levelOf, contact]
  have lamp : t.lampOf = s.lampOf := by
    funext r
    rw [State.lampOf, State.lampOf, contact]
  have role : t.roleLevel d = s.roleLevel d := by
    funext r
    rw [State.roleLevel, State.roleLevel, level]
  have unknown : t.someUnknown d = s.someUnknown d := by
    unfold State.someUnknown State.accepted
    rw [contact]
  have required : t.required d = s.required d := by
    funext r
    unfold State.required
    rw [role]
  have lit : t.litAspects d = s.litAspects d := by
    unfold State.litAspects
    rw [lamp]
  unfold State.rule
  rw [unknown, required, role, lit, lamp]

/-- What a resolution writes does not ask for the mark. -/
theorem resolveRecord_sameState {a b : ObjectRecord} (h : a.sameState b) (n : Nat) (cause : ChangeCause) (stamp : Stamp)
    (d : Definition) (old : Presented) (k : KindOutcome) :
    (resolveRecord n cause stamp a d old k).1.sameState (resolveRecord n cause stamp b d old k).1 := by
  have e : b = { a with dirty := b.dirty } := h.symm
  rw [e]
  unfold resolveRecord
  dsimp only [KindOutcome.presents]
  split
  · rfl
  · rfl

/-- An object that a batch does not reach, or that is not in service, stands. -/
theorem State.resolveBatch_object_stands {s : State} {n : Nat} {entries : List BatchEntry}
    (quiet : (hitsOf s.table.index entries).filter (fun h => h.object = n) = [] ∨ (s.object n).service ≠ .inService) :
    (s.object n).sameState ((s.resolveBatch entries).1.object n) := by
  by_cases place : n < s.table.objects.length
  case neg => exact (State.foldl_resolveHits_other (fun mem => place (List.mem_range.mp mem)) (s, [])).1
  obtain ⟨acc, before, after⟩ := State.resolveBatch_turn place entries
  refine before.1.trans (ObjectRecord.sameState.trans ?_ after.1)
  obtain unreached | resting := quiet
  · rw [State.resolveHits_of_unreached unreached]
    rfl
  · obtain e | ⟨cause, stamp, e⟩ := State.resolveHits_cases acc (hitsOf s.table.index entries) n
    · rw [e]
      rfl
    · rw [e]
      obtain ⟨e', -⟩ | ⟨d, old, serving, -⟩ := acc.1.resolve_cases n cause stamp false
      · rw [e']
        rfl
      · exact absurd (before.1.service.symm.trans serving) resting

/-- An object in service that a batch reaches is resolved once, as the batch found it. -/
theorem State.resolveBatch_object_resolved {s : State} {n : Nat} {entries : List BatchEntry} {mine : List Hit}
    (own : mine = (hitsOf s.table.index entries).filter (fun h => h.object = n)) {d : Definition} {old : Presented}
    {cause : ChangeCause} {stamp : Stamp} (reached : mine ≠ []) (service : (s.object n).service = .inService)
    (definition : (s.object n).definition = some d) (presented : (s.object n).presented = some old)
    (why : cause = if ∃ h ∈ mine, h.lost = true then ChangeCause.module else .contact)
    (last : ∃ h ∈ mine, h.stamp = stamp) (bound : ∀ h ∈ mine, h.stamp ≤ stamp) :
    (resolveRecord n cause stamp (s.object n) d old (s.rule d old false)).1.sameState
      ((s.resolveBatch entries).1.object n) := by
  obtain ⟨acc, before, after⟩ := State.resolveBatch_turn (State.serving_lt service) entries
  have service' : (acc.1.object n).service = .inService := before.1.service.trans service
  have definition' : (acc.1.object n).definition = some d := before.1.definition.trans definition
  have presented' : (acc.1.object n).presented = some old := before.1.presented.trans presented
  refine ObjectRecord.sameState.trans ?_ after.1
  rw [State.resolveHits_of_reached own acc reached why last bound,
    State.resolve_of_serving service' definition' presented', State.rule_of_contacts before.2]
  refine ObjectRecord.sameState.trans ?_ ((State.handOn_sameObjects _ _).objects n)
  rw [State.object_setObject_self (State.serving_lt service')]
  exact resolveRecord_sameState before.1 _ _ _ _ _ _

/-! ### The readbacks (R130) -/

/-- A batch brings the readback of a RELEASING output to its released sense. -/
def ReleasedBy (entries : List BatchEntry) (s : State) (o : Nat) : Prop :=
  (s.output o).state = .releasing ∧ (s.output o).windowEnd ≠ none ∧ ∃ c, (s.output o).readback = some c ∧
    ∃ e ∈ entries, e.contact = c ∧ ∃ l, e.accepted = some l ∧ l ≠ (s.output o).sense

theorem BatchEntry.reaches_iff {e : BatchEntry} {c : Nat} {sense : Level} :
    (e.contact = c && e.accepted.isSome && e.accepted ≠ some sense) = true ↔
      e.contact = c ∧ ∃ l, e.accepted = some l ∧ l ≠ sense := by
  cases e.accepted with
  | none => simp
  | some l => simp

theorem State.judgeRelease_of_released {entries : List BatchEntry} {s : State} {o : Nat} (h : ReleasedBy entries s o) :
    State.judgeRelease entries s o = s.completeRelease o := by
  obtain ⟨releasing, window, c, readback, e, mem, reaches⟩ := h
  have whole : (s.output o).state = .releasing ∧ (s.output o).windowEnd.isSome = true :=
    ⟨releasing, Option.isSome_iff_ne_none.mpr window⟩
  simp only [State.judgeRelease, if_pos whole, readback]
  exact if_pos (List.any_eq_true.mpr ⟨e, mem, BatchEntry.reaches_iff.mpr reaches⟩)

theorem State.judgeRelease_of_not {entries : List BatchEntry} {s : State} {o : Nat} (h : ¬ ReleasedBy entries s o) :
    State.judgeRelease entries s o = s := by
  unfold State.judgeRelease
  dsimp only
  split
  next whole =>
    split
    · rfl
    next c readback =>
      refine if_neg fun yes => h ⟨whole.1, Option.isSome_iff_ne_none.mp whole.2, c, readback, ?_⟩
      obtain ⟨e, mem, reaches⟩ := List.any_eq_true.mp yes
      exact ⟨e, mem, BatchEntry.reaches_iff.mp reaches⟩
  · rfl

/-! ### The part state (R17) -/

/-- The judgement of the part state writes the part state alone of the blocks no journal reaches. -/
theorem State.judgeAcquisition_ground (s : State) (time : Stamp) :
    SameGround (s.setScanner { s.scanner with part := (s.judgeAcquisition time).scanner.part })
      (s.judgeAcquisition time) := by
  unfold State.judgeAcquisition
  split
  · obtain ⟨u, hu⟩ : ∃ u, u = s.handModules (entryItems s.scanner.modules time) := ⟨_, rfl⟩
    have handed : SameGround s u := hu ▸ (sameGround_kept s).handModules (.refl s)
    have entered : SameGround (s.setScanner { s.scanner with part := .running }) u.enterRunning := by
      refine ⟨handed.power, handed.straps, handed.time, ?_, handed.filter, handed.flash, handed.index, handed.inhibit,
        handed.store, handed.pending⟩
      show ({ u.scanner with part := .running } : Scanner) = { s.scanner with part := .running }
      rw [handed.scanner]
    have marked : SameGround (s.setScanner { s.scanner with part := .running }) u.enterRunning.markAll :=
      (sameGround_kept _).markAll entered
    rw [← hu]
    have part : u.enterRunning.markAll.scanner.part = .running := by
      rw [marked.scanner]
      rfl
    rw [part]
    exact marked
  · exact .refl s

/-- The scanner after a completion; the count goes on in ACQUIRING alone (R17). -/
theorem Scanner.afterScan_eq (x : Scanner) (scan : Scan) (outcomes : List ModuleOutcome) :
    x.afterScan scan outcomes = { x with
      acquisition := if x.part = .acquiring then min (x.acquisition + 1) 64 else x.acquisition,
      modules := outcomes.map (·.record), scan := none, lastSample := some scan.sampleTime } := by
  unfold Scanner.afterScan Scanner.countScan
  cases x.part with
  | acquiring => rfl
  | unconfigured => rfl
  | running => rfl

theorem exec_scanCompletion {s : State} {scan : Scan} (running : s.scanner.scan = some scan)
    (reads : List ModuleRead) : exec (.scanCompletion reads) s = .next (s.finish (s.completeScan scan reads)) := by
  show execScanCompletion reads s = _
  rw [execScanCompletion, running]
  rfl

/-- Settles O6: each object has one turn in the batch, and what follows the batch writes no object but its mark. -/
theorem scanCompletes : Obligations.ScanCompletes := by
  refine ⟨fun s scan reads outcomes filtered entries running ho hf he => ?_,
    fun s time outcomes n c flash here no some => ?_,
    fun outcomes c =>
      ⟨contactInput_of_unmapped, fun n input o mapped here => ⟨fun absent => ?_, fun inputs read => ?_⟩⟩,
    fun time olds news => ⟨batchEntries_ascending _ _ _ _, fun e => ?_⟩, fun _ _ _ => mem_hitsOf,
    fun _ _ => ⟨rfl, rfl⟩, fun _ _ _ => rfl,
    fun hits mine acc n own => ⟨fun none => State.resolveHits_of_unreached (own ▸ none) acc,
      fun _ _ => State.resolveHits_of_reached own acc⟩,
    fun s entries => ⟨rfl, fun o => ⟨State.judgeRelease_of_released, State.judgeRelease_of_not⟩⟩⟩
  · obtain ⟨a, ha⟩ : ∃ a, a = (outcomes.filterMap (·.item)).foldl State.handModule
      (s.setScanner (s.scanner.afterScan scan outcomes)) := ⟨_, rfl⟩
    have handed : SameGround (s.setScanner (s.scanner.afterScan scan outcomes)) a :=
      ha ▸ (sameGround_kept _).handModules (.refl _)
    have objects : SameObjects (s.setScanner (s.scanner.afterScan scan outcomes)) a :=
      ha ▸ (sameObjects_kept _).handModules (.refl _)
    obtain ⟨u, hu⟩ : ∃ u, u = a.setContacts (filtered.map (·.1)) := ⟨_, rfl⟩
    obtain ⟨v, hv⟩ : ∃ v, v = u.applyBatch entries := ⟨_, rfl⟩
    have batch : SameGround u v := hv ▸ (sameGround_kept u).applyBatch (.refl u)
    obtain ⟨t, ht⟩ : ∃ t, t = s.finish (v.judgeAcquisition scan.sampleTime) := ⟨_, rfl⟩
    have run : exec (.scanCompletion reads) s = .next t := by
      rw [exec_scanCompletion running, ht, hv, hu, ha, he, hf, ho]
      rfl
    have judged : SameGround (v.setScanner { v.scanner with part := (v.judgeAcquisition scan.sampleTime).scanner.part })
        t := by
      rw [ht]
      exact (sameGround_kept _).finish (v.judgeAcquisition_ground scan.sampleTime)
    have object : ∀ n, (s.object n).sameState (u.object n) := fun n => by
      rw [hu]
      exact objects.objects n
    have index : u.table.index = s.table.index := by
      rw [hu]
      exact handed.index
    have scanner : t.scanner = { s.scanner.afterScan scan outcomes with
        part := (v.judgeAcquisition scan.sampleTime).scanner.part } := by
      rw [judged.scanner]
      show ({ v.scanner with part := _ } : Scanner) = _
      rw [batch.scanner, hu]
      show ({ a.scanner with part := _ } : Scanner) = _
      rw [handed.scanner]
      rfl
    have settled : ∀ n, ((u.resolveBatch entries).1.object n).sameState (v.object n) := fun n => by
      rw [hv]
      exact ((sameObjects_kept _).judgeReadbacks ((sameObjects_kept _).handToPress (.refl _))).objects n
    have power : t.power = s.power := judged.power.trans (batch.power.trans (hu ▸ handed.power))
    have filter : t.filter = u.filter := judged.filter.trans batch.filter
    refine ⟨u, v, t, run, ?_, hv, ht, fun n hits _ own => ⟨fun quiet => ?_,
      fun d old cause stamp reached service definition presented why last bound => ?_⟩, ?_, ?_, ?_, ?_, ?_, ?_,
      fun acquiring => ?_, ?_, ?_, judged.flash.trans (batch.flash.trans (hu ▸ handed.flash)),
      judged.index.trans (batch.index.trans index), power, judged.time.trans (batch.time.trans (hu ▸ handed.time)),
      judged.straps.trans (batch.straps.trans (hu ▸ handed.straps)),
      judged.store.trans (batch.store.trans (hu ▸ handed.store)),
      judged.inhibit.trans (batch.inhibit.trans (hu ▸ handed.inhibit)),
      judged.pending.trans (batch.pending.trans (hu ▸ handed.pending))⟩
    · rw [hu, ha, Scanner.afterScan_eq]
    · refine (object n).trans (ObjectRecord.sameState.trans (State.resolveBatch_object_stands ?_) (settled n))
      rw [index, ← own]
      exact quiet.imp_right fun resting serving => resting ((object n).service.symm.trans serving)
    · have own' : hits = (hitsOf u.table.index entries).filter (fun h => h.object = n) := by rw [index, own]
      refine ObjectRecord.sameState.trans ?_ ((State.resolveBatch_object_resolved own' reached
        ((object n).service.trans service) ((object n).definition.trans definition)
        ((object n).presented.trans presented) why last bound).trans (settled n))
      exact resolveRecord_sameState (object n) _ _ _ _ _ _
    · exact congrArg Scanner.modules scanner
    · exact congrArg Scanner.scan scanner
    · exact congrArg Scanner.lastSample scanner
    · rw [scanner]
      rfl
    · rw [scanner]
      rfl
    · rw [scanner]
      rfl
    · rw [scanner, Scanner.afterScan_eq, if_pos acquiring]
    · rw [filter, hu]
      rfl
    · rw [filter, hu]
      show a.filter.profiles = _
      rw [handed.filter]
      rfl
  · rw [State.filterContacts_getElem? here, State.flashOf_eq no some]
  · rw [contactInput_of_mapped mapped here, absent]
    rfl
  · rw [contactInput_of_mapped mapped here, read]
    rfl
  · rw [mem_batchEntries]
    simp only [Nat.zero_add, batchEntry_eq_some_iff]

end Sys2Proof.Machine
end

section
/-! PROOFS. The part state: how RUNNING is entered, and what leaves it (R16, R17). -/

namespace Sys2Proof.Machine

/-! ### The judgement (R17) -/

theorem State.acquired_iff (s : State) : s.acquired = true ↔
    (∃ m ∈ s.scanner.modules, m.state = .inService) ∧
    ∀ (c n input : Nat) (m : ModuleRecord), c < s.filter.contacts.length →
      mappedAt s.scanner.modules c = some (n, input) → s.scanner.modules[n]? = some m → m.state = .inService →
      s.accepted c ≠ none := by
  unfold State.acquired
  rw [Bool.and_eq_true, List.any_eq_true, List.all_eq_true]
  refine and_congr (by simp only [decide_eq_true_eq]) ⟨fun h c n input m place mapped here serving => ?_,
    fun h c mem => ?_⟩
  · have known := h c (List.mem_range.mpr place)
    rw [mapped] at known
    dsimp only at known
    rw [here] at known
    simpa [serving, Option.isSome_iff_ne_none] using known
  · have place := List.mem_range.mp mem
    cases mapped : mappedAt s.scanner.modules c with
    | none => rfl
    | some at' =>
      obtain ⟨n, input⟩ := at'
      dsimp only
      cases here : s.scanner.modules[n]? with
      | none => rfl
      | some m =>
        by_cases serving : m.state = .inService
        · simpa [serving, Option.isSome_iff_ne_none] using h c n input m place mapped here serving
        · simp [serving]

theorem State.judgeAcquisition_of_entry {s : State} (acquiring : s.scanner.part = .acquiring)
    (condition : s.acquired = true ∨ 64 ≤ s.scanner.acquisition) (time : Stamp) : s.judgeAcquisition time =
      (s.handModules (entryItems s.scanner.modules time)).enterRunning.markAll :=
  if_pos ⟨acquiring, condition⟩

theorem State.judgeAcquisition_of_not {s : State}
    (h : s.scanner.part ≠ .acquiring ∨ (s.acquired = false ∧ s.scanner.acquisition < 64)) (time : Stamp) :
    s.judgeAcquisition time = s := by
  refine if_neg fun ⟨acquiring, condition⟩ => ?_
  obtain elsewhere | ⟨unknown, early⟩ := h
  · exact elsewhere acquiring
  · obtain known | late := condition
    · exact absurd (unknown.symm.trans known) Bool.false_ne_true
    · exact Nat.not_le_of_lt early late

theorem State.judgeAcquisition_part_of_entry {s : State} (acquiring : s.scanner.part = .acquiring)
    (condition : s.acquired = true ∨ 64 ≤ s.scanner.acquisition) (time : Stamp) :
    (s.judgeAcquisition time).scanner.part = .running := by
  rw [State.judgeAcquisition_of_entry acquiring condition, State.markAll_scanner]
  rfl

/-- What decides of the entry stands through it and all that follows. -/
theorem SameGround.acquired {s t : State} {x : PartState}
    (h : SameGround (s.setScanner { s.scanner with part := x }) t) :
    t.acquired = s.acquired := by
  unfold State.acquired State.accepted State.contact
  rw [h.scanner, h.filter]
  rfl

/-- The part state is written by the judgement of a completion, by DEFINE-MODULES and by the power alone. -/
theorem part_keptByRequests (p : PartState) : KeptByRequests (fun s => s.scanner.part = p) where
  outputs _ _ := id
  slot _ _ _ _ := id
  watch _ _ _ _ := id
  dirty _ _ _ := id
  permit _ _ _ := id
  queue _ _ := id
  objects _ _ := id
  modulePending _ _ _ := id
  outputPending _ _ _ := id
  append _ _ _ _ _ := id
  drop _ _ _ := id
  scanner _ _ same h := same.trans h
  contacts _ _ := id
  profile _ _ _ := id
  flash _ _ _ := id
  index _ _ := id
  inhibit _ _ := id
  store _ _ := id
  switches _ _ _ _ := id

/-- A completion judges the part state last, and has not changed it before. -/
theorem State.completeScan_judged (s : State) (scan : Scan) (reads : List ModuleRead) :
    ∃ v : State, v.scanner.part = s.scanner.part ∧
      s.completeScan scan reads = v.judgeAcquisition scan.sampleTime := by
  exact ⟨_, (part_keptByRequests s.scanner.part).scanApplied rfl, rfl⟩

/-! ### What leaves RUNNING -/

section Leaves

variable {s : State} (h : s.scanner.part = .running)
include h

theorem serveRequest_running {i : Instr} (other : ¬ ∃ tag entries, i = .defineModules tag entries) :
    (serveRequest i s).1.scanner.part = .running :=
  (part_keptByRequests .running).served h (served_serveRequest s i) fun defines => absurd defines other

theorem State.takeFrame_running {f : Frame} {serve : State → State × Reply}
    (served : (serve s).1.scanner.part = .running) : (s.takeFrame f serve).scanner.part = .running := by
  obtain e | e | ⟨-, -, e | e⟩ := s.takeFrame_cases f serve
  · rw [e]
    exact h
  · rw [e]
    exact h
  · rw [e, State.finish_scanner]
    exact h
  · rw [e, State.finish_scanner]
    exact served

theorem State.event_running {due : Option Stamp} {act : Stamp → State → State}
    (kept : ∀ d t, t.scanner.part = .running → (act d t).scanner.part = .running) :
    (s.event due act).scanner.part = .running := by
  obtain e | ⟨d, t, -, same | ⟨-, same⟩, e⟩ := s.event_cases due act
  · rw [e]
    exact h
  · rw [e, State.finish_scanner]
    exact kept d t (same ▸ h)
  · rw [e, State.finish_scanner]
    exact kept d t (same ▸ h)

theorem State.completeScan_running (scan : Scan) (reads : List ModuleRead) :
    (s.completeScan scan reads).scanner.part = .running :=
  (part_keptByRequests .running).completeScan (fun _ _ => rfl) h

theorem State.endGap_running (k : Nat) : (s.endGap k).scanner.part = .running := by
  unfold State.endGap
  split
  · exact (part_keptByRequests .running).stepDue h
  · exact h

/-- A frame sent while no RESTART waits leaves the part RUNNING. -/
theorem State.frameSent_running (none : s.link.restarting ≠ true) : s.frameSent.scanner.part = .running := by
  unfold State.frameSent
  dsimp only
  rw [if_neg fun waits => none waits.1, (State.chooseFrame_sameRelays _).scanner]
  exact h

/-- What a received octet completes is no frame, a frame that changes no module map, or DEFINE-MODULES. -/
theorem State.handReceived_running {x : Receiver × Option Frame}
    (other : ¬ ∃ f tag entries, x.2 = some f ∧ decodeRequest f = .request (.defineModules tag entries)) :
    (s.handReceived x).scanner.part = .running := by
  unfold State.handReceived
  split
  · exact h
  next f completed =>
    refine State.takeFrame_running (s := s.setReceiver x.1) h ?_
    cases decoded : decodeRequest f with
    | request i =>
      refine serveRequest_running (s := s.setReceiver x.1) h ?_
      rintro ⟨tag, entries, rfl⟩
      exact other ⟨f, tag, entries, completed, decoded⟩
    | badLength => exact h
    | badCode b => exact h
    | notARequest => exact h

/-- RUNNING is left through DEFINE-MODULES, RESTART and the power alone. -/
theorem exec_leaves_running {i : Instr} {t : State} (run : exec i s = .next t) (left : t.scanner.part ≠ .running) :
    (∃ tag entries, i = .defineModules tag entries) ∨ (i = .frameSent ∧ s.link.restarting = true) ∨
      (∃ straps, i = .powerOn straps) ∨ i = .powerLoss ∨ (∃ b, i = .startUpLoadComplete ∧ s.power = .loading b) ∨
      ∃ o f tag entries, i = .octetReceived o ∧ (receiveOctet s.time s.link.receiver o).2 = some f ∧
        decodeRequest f = .request (.defineModules tag entries) := by
  have K := part_keptByRequests .running
  cases frame : encodeRequest i with
  | some f =>
    rw [exec_of_request frame] at run
    obtain rfl := Host.Outcome.next.inj run
    by_contra other
    rw [not_or] at other
    exact left (State.takeFrame_running h (serveRequest_running h other.1))
  | none =>
    cases i
    case powerOn straps => exact .inr (.inr (.inl ⟨straps, rfl⟩))
    case powerLoss => exact .inr (.inr (.inr (.inl rfl)))
    all_goals obtain rfl := Host.Outcome.next.inj run
    case startUpLoadComplete =>
      split at left
      next b loading => exact .inr (.inr (.inr (.inr (.inl ⟨b, rfl, loading⟩))))
      · exact absurd h left
      · exact absurd h left
    case frameSent =>
      by_cases waits : s.link.restarting = true
      · exact .inr (.inl ⟨rfl, waits⟩)
      · split at left
        · exact absurd (State.frameSent_running h waits) left
        · exact absurd h left
    case octetReceived o =>
      by_cases defines : ∃ f tag entries, (receiveOctet s.time s.link.receiver o).2 = some f ∧
          decodeRequest f = .request (.defineModules tag entries)
      · obtain ⟨f, tag, entries, completed, decoded⟩ := defines
        exact .inr (.inr (.inr (.inr (.inr ⟨o, f, tag, entries, rfl, completed, decoded⟩))))
      · split at left
        · exact absurd (State.handReceived_running h defines) left
        · exact absurd h left
    all_goals refine absurd ?_ left
    case scanStart =>
      split
      · exact State.event_running h fun _ _ hu => hu
      · exact h
    case scanCompletion reads =>
      split
      · exact h
      · rw [State.finish_scanner]
        exact State.completeScan_running h _ _
    case objectTimerExpiry n => exact State.event_running h fun _ _ hu => K.expireTimer hu
    case pulseEnd o => exact State.event_running h fun _ _ hu => K.endPulse hu
    case windowExpiry o => exact State.event_running h fun _ _ hu => K.endWindow hu
    case gapExpiry k => exact State.event_running h fun _ _ hu => State.endGap_running hu k
    case watchExpiry k => exact State.event_running h fun _ _ hu => K.endOperation hu
    case saveWritingEnd memory =>
      split
      · exact h
      · exact h
    case saveCompletion =>
      split
      · unfold State.completeSave
        split
        · exact h
        · exact h
      · exact h
    case frameDiscarded cause => exact h
    case requestDropped f =>
      split
      · exact h
      · exact h
    case unknownKind f =>
      split
      · exact h
      · exact State.takeFrame_running h h
    case echoFrame f =>
      split
      · exact State.takeFrame_running h h
      · exact h
    all_goals exact absurd frame (by simp [encodeRequest])

end Leaves

/-- Settles O7: what decides of the entry is judged last in a completion, and stands through what follows it. -/
theorem runningIsEnteredAtAcquisition : Obligations.RunningIsEnteredAtAcquisition := by
  refine ⟨fun s scan reads t running run => ?_, State.acquired_iff,
    fun s time => ⟨fun acquiring condition u hu => ?_, fun h => State.judgeAcquisition_of_not h time⟩,
    fun i s t run running left => exec_leaves_running running run left⟩
  · rw [exec_scanCompletion running] at run
    obtain rfl := Host.Outcome.next.inj run
    obtain ⟨v, part, judged⟩ : ∃ v : State, v.scanner.part = s.scanner.part ∧
        s.completeScan scan reads = v.judgeAcquisition scan.sampleTime := s.completeScan_judged scan reads
    rw [judged]
    have ground := (sameGround_kept _).finish (before := s) (v.judgeAcquisition_ground scan.sampleTime)
    have acquired := ground.acquired
    have count : (State.finish s (v.judgeAcquisition scan.sampleTime)).scanner.acquisition = v.scanner.acquisition := by
      rw [ground.scanner]
      rfl
    rw [acquired, count, State.finish_scanner, ← part]
    refine ⟨fun acquiring => ?_, fun other => by rw [State.judgeAcquisition_of_not (.inl other)]⟩
    by_cases condition : v.acquired = true ∨ 64 ≤ v.scanner.acquisition
    · have entered := State.judgeAcquisition_part_of_entry acquiring condition scan.sampleTime
      exact ⟨iff_of_true entered condition, .inl entered⟩
    · rw [State.judgeAcquisition_of_not (.inr ?_)]
      · exact ⟨iff_of_false (by simp [acquiring]) condition, .inr acquiring⟩
      · obtain ⟨unknown, early⟩ := not_or.mp condition
        exact ⟨Bool.eq_false_iff.mpr unknown, Nat.lt_of_not_le early⟩
  · rw [State.judgeAcquisition_of_entry acquiring condition, hu]
    rfl

end Sys2Proof.Machine
end

section
/-! PROOFS. Box time: what leaves it alone, what is due at it, and what is owed (R1). -/

namespace Sys2Proof.Machine

/-! ### Box time stands or advances -/

/-- What owners, journal and press unit leave has a property of box time. -/
theorem time_keptByOwners (p : Stamp → Prop) : KeptByOwners (fun s => p s.time) where
  outputs _ _ := id
  slot _ _ _ _ := id
  watch _ _ _ _ := id
  dirty _ _ _ := id
  permit _ _ _ := id
  queue _ _ := id
  objects _ _ := id
  modulePending _ _ _ := id
  outputPending _ _ _ := id
  append _ _ _ _ _ := id
  drop _ _ _ := id
  scanner _ _ _ := id
  contacts _ _ := id
  profile _ _ _ := id
  flash _ _ _ := id
  index _ _ := id
  inhibit _ _ := id
  store _ _ := id
  switches _ _ _ _ := id
  redefined _ _ _ := id

theorem State.finish_time (b s : State) : (State.finish b s).time = s.time :=
  ((sameGround_kept s).finish (SameGround.refl s)).time

/-- A request leaves box time as it stands. -/
theorem exec_request_time {i : Instr} {f : Frame} {s t : State} (frame : encodeRequest i = some f)
    (run : exec i s = .next t) : t.time = s.time := by
  rw [exec_of_request frame] at run
  obtain rfl := Host.Outcome.next.inj run
  obtain e | e | ⟨-, -, e | e⟩ := s.takeFrame_cases f (serveRequest i)
  · rw [e]
  · rw [e]
    rfl
  · rw [e, State.finish_time]
    rfl
  · rw [e, State.finish_time]
    exact (time_keptByOwners (· = s.time)).serveRequest rfl

/-- No event but the power applied takes box time back. -/
theorem time_eventsLead (x : Stamp) : EventsLead (fun s => x ≤ s.time) (fun s => x ≤ s.time) :=
  have choose : ∀ s : State, x ≤ s.time → x ≤ s.chooseFrame.time := fun s h => by
    rw [s.chooseFrame_sameRelays.time]
    exact h
  (time_keptByOwners (x ≤ ·)).eventsLead choose (fun _ _ later h => Nat.le_trans h later) (fun _ _ => id)
    (fun _ _ => id) (fun _ _ _ _ _ => id) (fun _ => id) (fun _ _ => id) (fun _ => id) serveRequest_replies
    (fun _ => id) (fun _ _ _ h => (time_keptByOwners (x ≤ ·)).finish choose
      ((time_keptByOwners (x ≤ ·)).completeScan (fun _ => id) h))

/-! ### What is due -/

/-- The commands that may fall due. -/
theorem State.isDue_cases {s : State} {d : Instr} (due : s.isDue d) :
    d = .startUpLoadComplete ∨ (∃ n, d = .objectTimerExpiry n) ∨ (∃ o, d = .pulseEnd o) ∨ (∃ o, d = .windowExpiry o) ∨
      (∃ k, d = .gapExpiry k) ∨ (∃ k, d = .watchExpiry k) ∨ d = .saveCompletion ∨ d = .scanStart := by
  cases d
  case startUpLoadComplete | saveCompletion | scanStart => simp
  case objectTimerExpiry | pulseEnd | windowExpiry | gapExpiry | watchExpiry => simp
  all_goals exact due.elim

/-- The event that has a place among those due. -/
def State.eventAt (s : State) : Nat × Nat → Instr
  | (0, _) => .startUpLoadComplete
  | (1, n) => .objectTimerExpiry n
  | (2, o) => .pulseEnd o
  | (3, o) => .windowExpiry o
  | (4, k) => if (s.slot k).isWatching then .watchExpiry k else .gapExpiry k
  | (5, _) => .saveCompletion
  | _ => .scanStart

/-- An event that is due is told by its place. -/
theorem State.eventAt_duePlace {s : State} {d : Instr} (due : s.isDue d) : d = s.eventAt (duePlace d) := by
  obtain rfl | ⟨n, rfl⟩ | ⟨n, rfl⟩ | ⟨n, rfl⟩ | ⟨k, rfl⟩ | ⟨k, rfl⟩ | rfl | rfl := State.isDue_cases due
  case inr.inr.inr.inr.inl =>
    obtain ⟨op, e, gap, -⟩ := due
    simp [State.eventAt, duePlace, gap, Slot.isWatching]
  case inr.inr.inr.inr.inr.inl =>
    obtain ⟨op, e, watching, -⟩ := due
    simp [State.eventAt, duePlace, watching, Slot.isWatching]
  all_goals rfl

theorem State.eventAt_of_kind {s : State} {d : Instr} {kind : Nat} (due : s.isDue d) (own : (duePlace d).1 = kind) :
    d = s.eventAt (kind, (duePlace d).2) := own ▸ State.eventAt_duePlace due

/-- Of the events of one kind that are due, the first by number, if there is one. -/
structure FirstOfKind (s : State) (kind : Nat) (found : Option Instr) : Prop where
  due : ∀ c, found = some c → s.isDue c ∧ (duePlace c).1 = kind
  first : ∀ c d, found = some c → s.isDue d → (duePlace d).1 = kind → (duePlace c).2 ≤ (duePlace d).2
  absent : found = none → ∀ d, s.isDue d → (duePlace d).1 ≠ kind

/-- An event is not after another, by kind and within a kind by number. -/
def NotAfter (c d : Instr) : Prop :=
  (duePlace c).1 < (duePlace d).1 ∨ ((duePlace c).1 = (duePlace d).1 ∧ (duePlace c).2 ≤ (duePlace d).2)

/-- Of the events of this and later kinds that are due, the first, if there is one. -/
structure FirstFrom (s : State) (kind : Nat) (found : Option Instr) : Prop where
  due : ∀ c, found = some c → s.isDue c ∧ kind ≤ (duePlace c).1
  first : ∀ c d, found = some c → s.isDue d → kind ≤ (duePlace d).1 → NotAfter c d
  absent : found = none → ∀ d, s.isDue d → (duePlace d).1 < kind

theorem FirstOfKind.orElse {s : State} {kind : Nat} {here rest : Option Instr} (own : FirstOfKind s kind here)
    (later : FirstFrom s (kind + 1) rest) : FirstFrom s kind (here <|> rest) := by
  cases found : here with
  | some c =>
    obtain ⟨due, place⟩ := own.due c found
    refine ⟨fun x e => ?_, fun x d e due' le => ?_, fun e => nomatch e⟩
    · obtain rfl : c = x := Option.some.inj e
      exact ⟨due, Nat.le_of_eq place.symm⟩
    · obtain rfl : c = x := Option.some.inj e
      obtain lt | eq := Nat.lt_or_eq_of_le le
      · exact .inl (place ▸ lt)
      · exact .inr ⟨place.trans eq, own.first c d found due' eq.symm⟩
  | none =>
    have beyond : ∀ d, s.isDue d → kind ≤ (duePlace d).1 → kind + 1 ≤ (duePlace d).1 := fun d due le =>
      Nat.lt_of_le_of_ne le (own.absent found d due).symm
    refine ⟨fun c e => ?_, fun c d e due le => later.first c d e due (beyond d due le), fun e d due => ?_⟩
    · obtain ⟨due, le⟩ := later.due c e
      exact ⟨due, Nat.le_of_succ_le le⟩
    · have := later.absent e d due
      exact Nat.lt_of_le_of_ne (Nat.le_of_lt_succ this) (own.absent found d due)

theorem duePlace_le (d : Instr) : (duePlace d).1 ≤ 6 := by
  unfold duePlace
  split <;> simp

theorem FirstOfKind.last {s : State} {found : Option Instr} (own : FirstOfKind s 6 found) : FirstFrom s 6 found := by
  refine ⟨fun c e => ?_, fun c d e due le => ?_, fun e d due => ?_⟩
  · obtain ⟨due, place⟩ := own.due c e
    exact ⟨due, Nat.le_of_eq place.symm⟩
  · have kind := Nat.le_antisymm (duePlace_le d) le
    exact .inr ⟨(own.due c e).2.trans kind.symm, own.first c d e due kind⟩
  · exact Nat.lt_of_le_of_ne (duePlace_le d) (own.absent e d due)

section Kinds

variable {s : State}

/-- A kind of one event. -/
theorem firstOfKind_single {kind : Nat} {c : Instr} {found : Option Instr} (place : duePlace c = (kind, 0))
    (only : ∀ d, s.isDue d → (duePlace d).1 = kind → d = c) (some : s.isDue c → found = some c)
    (none : ¬ s.isDue c → found = none) : FirstOfKind s kind found := by
  by_cases due : s.isDue c
  · rw [some due]
    refine ⟨fun x e => ?_, fun x d e _ _ => ?_, fun e => nomatch e⟩
    · obtain rfl := Option.some.inj e
      exact ⟨due, by rw [place]⟩
    · obtain rfl := Option.some.inj e
      rw [place]
      exact Nat.zero_le _
  · rw [none due]
    exact ⟨fun _ e => (nomatch e), fun _ _ e => (nomatch e), fun _ d due' kind => due (only d due' kind ▸ due')⟩

/-- A kind of events numbered by the entries of a list. -/
theorem firstOfKind_findIdx {α : Type} {kind : Nat} {event : Nat → Instr} {entries : List α} {p : α → Bool}
    (place : ∀ n, duePlace (event n) = (kind, n))
    (only : ∀ d, s.isDue d → (duePlace d).1 = kind → ∃ n, d = event n)
    (due_iff : ∀ n, s.isDue (event n) ↔ ∃ x, entries[n]? = some x ∧ p x = true) :
    FirstOfKind s kind ((entries.findIdx? p).map event) := by
  cases found : entries.findIdx? p with
  | none =>
    refine ⟨fun _ e => (nomatch e), fun _ _ e => (nomatch e), fun _ d due is => ?_⟩
    obtain ⟨n, rfl⟩ := only d due is
    obtain ⟨x, e, yes⟩ := (due_iff n).mp due
    exact Bool.false_ne_true ((findIdx?_eq_none_iff_getElem?.mp found n x e).symm.trans yes)
  | some n =>
    obtain ⟨here, before⟩ := findIdx?_eq_some_iff_getElem?.mp found
    refine ⟨fun c e => ?_, fun c d e due is => ?_, fun e => nomatch e⟩
    · obtain rfl := Option.some.inj e
      exact ⟨(due_iff n).mpr here, by rw [place]⟩
    · obtain rfl := Option.some.inj e
      obtain ⟨m, rfl⟩ := only d due is
      obtain ⟨x, e, yes⟩ := (due_iff m).mp due
      rw [place, place]
      by_contra lt
      exact Bool.false_ne_true ((before m x (Nat.lt_of_not_le lt) e).symm.trans yes)

theorem reached_iff {now : Stamp} {expiry : Option Stamp} :
    reached now expiry = true ↔ ∃ e, expiry = some e ∧ e ≤ now := by
  cases expiry with
  | none => simp [reached]
  | some e => simp [reached]

theorem State.loadDue_first (s : State) : FirstOfKind s 0 s.loadDue := by
  have due_iff : reached s.time s.power.bound = true ↔ s.isDue .startUpLoadComplete := by
    rw [reached_iff]
    show _ ↔ ∃ b, s.power = .loading b ∧ b + 100 ≤ s.time
    cases s.power with
    | off => simp [Power.bound]
    | operating => simp [Power.bound]
    | loading b => simp [Power.bound, Config.loadTime]
  exact firstOfKind_single rfl (fun _ => State.eventAt_of_kind) (fun due => if_pos (due_iff.mpr due))
    (fun no => if_neg (mt due_iff.mp no))

theorem State.objectDue_first (s : State) : FirstOfKind s 1 s.objectDue := by
  refine firstOfKind_findIdx (fun _ => rfl) (fun _ due kind => ⟨_, State.eventAt_of_kind due kind⟩) (fun n => ?_)
  simp only [reached_iff]
  show (∃ e, (s.object n).timer = some e ∧ e ≤ s.time) ↔ _
  rw [State.object, List.getD_eq_getElem?_getD]
  cases s.table.objects[n]? with
  | none => simp [ObjectRecord.undefined]
  | some o => simp

theorem State.pulseReached_first (s : State) : FirstOfKind s 2 s.pulseReached := by
  refine firstOfKind_findIdx (fun _ => rfl) (fun _ due kind => ⟨_, State.eventAt_of_kind due kind⟩) (fun n => ?_)
  simp only [Bool.and_eq_true, decide_eq_true_eq, reached_iff]
  show (s.output n).state = .driven ∧ (∃ e, (s.output n).pulseEnd = some e ∧ e ≤ s.time) ↔ _
  rw [State.output, List.getD_eq_getElem?_getD]
  cases s.press.outputs[n]? with
  | none => simp [OutputRecord.undefined]
  | some r => simp

theorem State.windowReached_first (s : State) : FirstOfKind s 3 s.windowReached := by
  refine firstOfKind_findIdx (fun _ => rfl) (fun _ due kind => ⟨_, State.eventAt_of_kind due kind⟩) (fun n => ?_)
  simp only [Bool.and_eq_true, decide_eq_true_eq, reached_iff]
  show (s.output n).state = .releasing ∧ (∃ e, (s.output n).windowEnd = some e ∧ e ≤ s.time) ↔ _
  rw [State.output, List.getD_eq_getElem?_getD]
  cases s.press.outputs[n]? with
  | none => simp [OutputRecord.undefined]
  | some r => simp

/-- What a slot brings about is due, and is a gap or a watch of that slot. -/
theorem slotEvent_eq_some_iff {s : State} {k : Nat} {c : Instr} : slotEvent s.time k (s.slot k) = some c ↔
    s.isDue c ∧ (c = .gapExpiry k ∨ c = .watchExpiry k) := by
  constructor
  · intro h
    unfold slotEvent at h
    split at h
    next op e slot =>
      obtain ⟨past, rfl⟩ := Option.ite_none_right_eq_some.mp h |>.imp id Option.some.inj
      exact ⟨⟨op, e, slot, past⟩, .inl rfl⟩
    next op e slot =>
      obtain ⟨past, rfl⟩ := Option.ite_none_right_eq_some.mp h |>.imp id Option.some.inj
      exact ⟨⟨op, e, slot, past⟩, .inr rfl⟩
    · exact nomatch h
  · rintro ⟨due, rfl | rfl⟩
    · obtain ⟨op, e, slot, past⟩ := due
      rw [slot]
      exact if_pos past
    · obtain ⟨op, e, slot, past⟩ := due
      rw [slot]
      exact if_pos past

theorem State.slotDue_isDue {s : State} {c : Instr} (h : s.slotDue = some c) : s.isDue c := by
  obtain ⟨k, -, event⟩ := List.exists_of_findSome?_eq_some h
  exact (slotEvent_eq_some_iff.mp event).1

theorem State.slotDue_first {s : State} (slots : s.press.slots.length = 4) : FirstOfKind s 4 s.slotDue := by
  have numbered : ∀ d, s.isDue d → (duePlace d).1 = 4 → ∃ k, k < 4 ∧ slotEvent s.time k (s.slot k) = some d ∧
      (duePlace d).2 = k := fun d due kind => by
    have slot : ∃ k, d = .gapExpiry k ∨ d = .watchExpiry k := by
      have own : d = if (s.slot (duePlace d).2).isWatching then .watchExpiry (duePlace d).2
          else .gapExpiry (duePlace d).2 := State.eventAt_of_kind due kind
      split at own
      · exact ⟨_, .inr own⟩
      · exact ⟨_, .inl own⟩
    obtain ⟨k, is⟩ := slot
    refine ⟨k, ?_, slotEvent_eq_some_iff.mpr ⟨due, is⟩, by obtain rfl | rfl := is <;> rfl⟩
    by_contra beyond
    have free : s.slot k = .free none := by
      rw [State.slot, List.getD_eq_getElem?_getD, List.getElem?_eq_none (by omega)]
      rfl
    obtain rfl | rfl := is
    · obtain ⟨op, e, slot, -⟩ := due
      exact nomatch free.symm.trans slot
    · obtain ⟨op, e, slot, -⟩ := due
      exact nomatch free.symm.trans slot
  cases found : s.slotDue with
  | none =>
    refine ⟨fun _ e => (nomatch e), fun _ _ e => (nomatch e), fun _ d due kind => ?_⟩
    obtain ⟨k, low, event, -⟩ := numbered d due kind
    have quiet := List.findSome?_eq_none_iff.mp found k (List.mem_range.mpr low)
    exact nomatch quiet.symm.trans event
  | some c =>
    obtain ⟨before, k, after, split, event, quiet⟩ := List.findSome?_eq_some_iff.mp found
    obtain ⟨due, is⟩ := slotEvent_eq_some_iff.mp event
    have place : duePlace c = (4, k) := by obtain rfl | rfl := is <;> rfl
    refine ⟨fun x e => ?_, fun x d e due' kind => ?_, fun e => nomatch e⟩
    · obtain rfl := Option.some.inj e
      exact ⟨due, by rw [place]⟩
    · obtain rfl := Option.some.inj e
      obtain ⟨j, low, event', place'⟩ := numbered d due' kind
      rw [place, place']
      have ascending : (before ++ k :: after).Pairwise (· < ·) := split ▸ List.pairwise_lt_range
      have mem : j ∈ before ++ k :: after := split ▸ List.mem_range.mpr low
      obtain early | late := List.mem_append.mp mem
      · exact nomatch (quiet j early).symm.trans event'
      · obtain rfl | late := List.mem_cons.mp late
        · exact Nat.le_refl _
        · exact Nat.le_of_lt (List.rel_of_pairwise_cons (List.pairwise_append.mp ascending).2.1 late)

theorem State.saveDue_first (s : State) : FirstOfKind s 5 s.saveDue := by
  refine firstOfKind_single (c := .saveCompletion) rfl (fun _ => State.eventAt_of_kind) (fun due => ?_) (fun no => ?_)
  · obtain ⟨c, b, save, past⟩ := due
    rw [State.saveDue, save]
    exact if_pos past
  · unfold State.saveDue
    split
    next c b save => exact if_neg fun past => no ⟨c, b, save, past⟩
    · rfl

theorem State.scanDue_first (s : State) : FirstOfKind s 6 s.scanDue := by
  have due_iff : (s.scanner.scan = none ∧ reached s.time s.scanner.nextScan = true) ↔ s.isDue .scanStart := by
    rw [reached_iff]
    exact Iff.rfl
  exact firstOfKind_single rfl (fun _ => State.eventAt_of_kind) (fun due => if_pos (due_iff.mpr due))
    (fun no => if_neg (mt due_iff.mp no))

/-- What the idle step takes is the first of what is due. -/
theorem State.nextDue_first (slots : s.press.slots.length = 4) : FirstFrom s 0 s.nextDue :=
  s.loadDue_first.orElse (s.objectDue_first.orElse (s.pulseReached_first.orElse (s.windowReached_first.orElse
    ((State.slotDue_first slots).orElse (s.saveDue_first.orElse s.scanDue_first.last)))))

theorem orElse_eq_some {α : Type} {a b : Option α} {x : α} (h : (a <|> b) = some x) : a = some x ∨ b = some x := by
  cases a with
  | none => exact .inr h
  | some y => exact .inl h

/-- What the idle step takes is due, however many slots there are. -/
theorem State.nextDue_isDue {c : Instr} (h : s.nextDue = some c) : s.isDue c := by
  obtain h | h := orElse_eq_some h
  · exact (s.loadDue_first.due c h).1
  obtain h | h := orElse_eq_some h
  · exact (s.objectDue_first.due c h).1
  obtain h | h := orElse_eq_some h
  · exact (s.pulseReached_first.due c h).1
  obtain h | h := orElse_eq_some h
  · exact (s.windowReached_first.due c h).1
  obtain h | h := orElse_eq_some h
  · exact State.slotDue_isDue h
  obtain h | h := orElse_eq_some h
  · exact (s.saveDue_first.due c h).1
  · exact (s.scanDue_first.due c h).1

theorem State.nextDue_of_first (slots : s.press.slots.length = 4) {c : Instr} (due : s.isDue c)
    (first : ∀ d, s.isDue d → NotAfter c d) : s.nextDue = some c := by
  have chosen := State.nextDue_first slots
  cases found : s.nextDue with
  | none => exact absurd (chosen.absent found c due) (Nat.not_lt_zero _)
  | some x =>
    have due' := (chosen.due x found).1
    have forward := first x due'
    have back := chosen.first x c found due (Nat.zero_le _)
    have same : duePlace x = duePlace c := Prod.ext ?_ ?_
    · rw [State.eventAt_duePlace due', same, ← State.eventAt_duePlace due]
    · unfold NotAfter at forward back
      omega
    · unfold NotAfter at forward back
      omega

end Kinds

/-! ### What is owed -/

/-- The expiries of a list's entries, told by their numbers; an entry beyond the list has none. -/
theorem mem_filterMap_iff_getD {α : Type} {f : α → Option Stamp} {l : List α} {absent : α} (quiet : f absent = none)
    {e : Stamp} : e ∈ l.filterMap f ↔ ∃ n, f (l.getD n absent) = some e := by
  rw [List.mem_filterMap]
  simp only [List.mem_iff_getElem?, List.getD_eq_getElem?_getD]
  constructor
  · rintro ⟨x, ⟨n, here⟩, running⟩
    exact ⟨n, by rwa [here]⟩
  · rintro ⟨n, running⟩
    cases here : l[n]? with
    | none =>
      rw [here] at running
      exact nomatch quiet.symm.trans running
    | some x =>
      rw [here] at running
      exact ⟨x, ⟨n, here⟩, running⟩

theorem Power.bound_eq_some_iff {p : Power} {e : Stamp} : p.bound = some e ↔ ∃ b, p = .loading b ∧ e = b + 100 := by
  cases p with
  | off => simp [Power.bound]
  | operating => simp [Power.bound]
  | loading b => simp [Power.bound, Config.loadTime, eq_comm]

theorem Scanner.scanBound_eq_some_iff {x : Scanner} {e : Stamp} :
    x.scanBound = some e ↔ ∃ c, x.scan = some c ∧ e = c.sampleTime + 1 := by
  simp [Scanner.scanBound, Config.scanTime, eq_comm]

theorem Slot.expiry_eq_some_iff {x : Slot} {e : Stamp} :
    x.expiry = some e ↔ ∃ op, x = .gap op e ∨ x = .watching op e := by
  cases x with
  | gap op e' => simp [Slot.expiry]
  | watching op e' => simp [Slot.expiry]
  | _ => simp [Slot.expiry]

theorem saveBound_eq_some_iff {x : Option SaveProgress} {e : Stamp} : x.map (·.stage.bound) = some e ↔
    ∃ c b, (x = some ⟨c, .writing b⟩ ∧ e = b + 1500) ∨ (x = some ⟨c, .readBack b⟩ ∧ e = b + 100) := by
  cases x with
  | none => simp
  | some p =>
    obtain ⟨c, stage⟩ := p
    cases stage with
    | writing b => simp [SaveStage.bound, Config.writeTime, eq_comm]
    | readBack b => simp [SaveStage.bound, Config.compareTime, eq_comm]

theorem State.mem_owed (s : State) (e : Stamp) : e ∈ s.owed ↔
    (∃ b, s.power = .loading b ∧ e = b + 100) ∨ (∃ x, s.scanner.scan = some x ∧ e = x.sampleTime + 1) ∨
    s.scanner.nextScan = some e ∨ (∃ n, (s.object n).timer = some e) ∨
    (∃ o, (s.output o).pulseEnd = some e ∨ (s.output o).windowEnd = some e) ∨
    (∃ k op, s.slot k = .gap op e ∨ s.slot k = .watching op e) ∨
    ∃ c b, (s.store.save = some ⟨c, .writing b⟩ ∧ e = b + 1500) ∨
      (s.store.save = some ⟨c, .readBack b⟩ ∧ e = b + 100) := by
  have timers : e ∈ s.table.objects.filterMap (·.timer) ↔ ∃ n, (s.object n).timer = some e := mem_filterMap_iff_getD rfl
  have pulses : e ∈ s.press.outputs.filterMap (·.pulseEnd) ↔ ∃ o, (s.output o).pulseEnd = some e :=
    mem_filterMap_iff_getD rfl
  have windows : e ∈ s.press.outputs.filterMap (·.windowEnd) ↔ ∃ o, (s.output o).windowEnd = some e :=
    mem_filterMap_iff_getD rfl
  have slots : e ∈ s.press.slots.filterMap (·.expiry) ↔ ∃ k, (s.slot k).expiry = some e := mem_filterMap_iff_getD rfl
  simp only [State.owed, List.mem_append, Option.mem_toList, timers, pulses, windows, slots, Power.bound_eq_some_iff,
    Scanner.scanBound_eq_some_iff, Slot.expiry_eq_some_iff, saveBound_eq_some_iff, exists_or, or_assoc]

/-! ### The step on an empty queue -/

theorem State.awaits_iff (s : State) : (s.awaitsBus || s.awaitsMemory) = true ↔
    (∃ x, s.scanner.scan = some x ∧ x.sampleTime + 1 ≤ s.time) ∨
      ∃ c b, s.store.save = some ⟨c, .writing b⟩ ∧ b + 1500 ≤ s.time := by
  rw [Bool.or_eq_true]
  refine or_congr ?_ ?_
  · rw [State.awaitsBus, reached_iff]
    simp only [Scanner.scanBound_eq_some_iff]
    exact ⟨fun ⟨e, ⟨x, scan, h⟩, past⟩ => ⟨x, scan, h ▸ past⟩, fun ⟨x, scan, past⟩ => ⟨_, ⟨x, scan, rfl⟩, past⟩⟩
  · unfold State.awaitsMemory
    split
    next c b save =>
      rw [decide_eq_true_eq]
      refine ⟨fun past => ⟨c, b, save, past⟩, fun ⟨c', b', save', past⟩ => ?_⟩
      obtain ⟨-, ⟨⟩⟩ := SaveProgress.mk.inj (Option.some.inj (save.symm.trans save'))
      exact past
    next other =>
      refine iff_of_false Bool.false_ne_true ?_
      rintro ⟨c, b, save, -⟩
      exact other c b save

section Idle

variable {s : State} (empty : s.pending = [])
include empty

theorem step_of_empty : Machine.step s = idle s := by
  rw [Machine.step, empty]

variable (powered : s.power ≠ .off)
include powered

theorem step_of_due {c : Instr} (due : s.nextDue = some c) : Machine.step s = exec c s := by
  rw [step_of_empty empty, idle, if_neg powered, due]

theorem step_of_quiet (quiet : s.nextDue = none) :
    Machine.step s = if s.awaitsBus || s.awaitsMemory then .next s else tick s := by
  rw [step_of_empty empty, idle, if_neg powered, quiet]

end Idle

/-- A step advances box time or leaves it, but at a POWER_ON. -/
theorem step_time_le {s t : State} (other : ∀ straps, s.pending.head? ≠ some (.powerOn straps))
    (run : Machine.step s = .next t) : s.time ≤ t.time := by
  have runs : ∀ (i : Instr) (u : State), u.time = s.time → (∀ straps, i ≠ .powerOn straps) → exec i u = .next t →
      s.time ≤ t.time := fun i u same ne e =>
    ((time_eventsLead s.time).exec (Nat.le_of_eq same.symm) e).resolve_left fun ⟨straps, is⟩ => ne straps is
  cases pending : s.pending with
  | cons c rest =>
    rw [Machine.step, pending] at run
    refine runs c (s.setPending rest) rfl (fun straps is => other straps ?_) run
    rw [pending, is]
    rfl
  | nil =>
    rw [step_of_empty pending] at run
    unfold idle at run
    split at run
    · obtain rfl := Host.Outcome.next.inj run
      exact Nat.le_refl _
    · split at run
      next c due => exact runs c s rfl (fun straps is => (is ▸ State.nextDue_isDue due : s.isDue (.powerOn straps))) run
      · split at run
        · obtain rfl := Host.Outcome.next.inj run
          exact Nat.le_refl _
        · unfold tick at run
          split at run
          · obtain rfl := Host.Outcome.next.inj run
            exact Nat.le_succ _
          · exact nomatch run

/-- Settles O14: the idle step takes the first of what is due, and only POWER_ON takes box time back. -/
theorem boxTimeIsKept : Obligations.BoxTimeIsKept := by
  refine ⟨fun i f s t => exec_request_time, fun s t => step_time_le, fun s empty slots => ⟨fun off => ?_,
    fun powered => ⟨fun c due first => step_of_due empty powered (State.nextDue_of_first slots due first),
      fun quiet waits hw => ?_⟩⟩, State.mem_owed⟩
  · rw [step_of_empty empty, idle, if_pos off]
  · have nothing : s.nextDue = none := by
      cases found : s.nextDue with
      | none => rfl
      | some c => exact absurd ((State.nextDue_first slots).due c found).1 (quiet c)
    rw [← s.awaits_iff] at hw
    rw [step_of_quiet empty powered nothing, hw]
    refine ⟨fun awaits => if_pos awaits, fun free early => ?_, fun free late => ?_⟩
    · rw [if_neg free]
      exact if_pos early
    · rw [if_neg free]
      exact if_neg (Nat.not_lt_of_le late)

end Sys2Proof.Machine
end

section
/-! PROOFS. The desk link's line: octets, the frames they make, and an octet's levels (R147 to R150, R164). -/

namespace Sys2Proof.Machine

/-! ### One octet at the receiver (R148, R149) -/

section Octet

variable {s : State} {o : Octet} {now : Stamp}

theorem exec_octetReceived (operating : s.power = .operating) :
    exec (.octetReceived o) s = .next (s.handReceived (receiveOctet s.time s.link.receiver o)) := by
  show execOctetReceived o s = _
  rw [execOctetReceived, if_pos operating]
  rfl

theorem exec_octetReceived_of_none {r : Receiver} (operating : s.power = .operating)
    (h : receiveOctet s.time s.link.receiver o = (r, none)) :
    exec (.octetReceived o) s = .next (s.setLink { s.link with receiver := r }) := by
  rw [exec_octetReceived operating, h]
  rfl

theorem exec_octetReceived_of_some {r : Receiver} {f : Frame} (operating : s.power = .operating)
    (h : receiveOctet s.time s.link.receiver o = (r, some f)) :
    exec (.octetReceived o) s = .next ((s.setLink { s.link with receiver := r }).handFrame f) := by
  rw [exec_octetReceived operating, h]
  rfl

theorem gapExceeded_iff {last : Stamp} : gapExceeded last now = true ↔ last + 10 < now := decide_eq_true_iff

/-- An octet in HUNTING, or after a gap, is examined as the first of a frame. -/
theorem receiveOctet_first {r : Receiver}
    (first : r = .hunting ∨ ∃ last len taken high, r = .collecting last len taken high ∧ last + 10 < now) :
    receiveOctet now r o = (hunt now o, none) := by
  obtain rfl | ⟨last, len, taken, high, rfl, late⟩ := first
  · rfl
  · exact if_pos (gapExceeded_iff.mpr late)

variable {last : Stamp} {taken : List Octet} {high : Option Octet} (inTime : now ≤ last + 10)
include inTime

theorem receiveOctet_collecting (len : Option Octet) :
    receiveOctet now (.collecting last len taken high) o = collect now len taken high o :=
  if_neg (mt gapExceeded_iff.mp (Nat.not_lt_of_le inTime))

theorem receiveOctet_badLen (bad : o.toNat < 2 ∨ 200 < o.toNat) :
    receiveOctet now (.collecting last none taken high) o = (.hunting, none) := by
  rw [receiveOctet_collecting inTime, collect, if_neg (by omega)]

theorem receiveOctet_len (least : 2 ≤ o.toNat) (most : o.toNat ≤ 200) :
    receiveOctet now (.collecting last none taken high) o = (.collecting now (some o) [] none, none) := by
  rw [receiveOctet_collecting inTime, collect, if_pos ⟨least, most⟩]

variable {len : Octet}

theorem receiveOctet_body (short : taken.length < len.toNat) :
    receiveOctet now (.collecting last (some len) taken high) o =
      (.collecting now (some len) (taken ++ [o]) none, none) := by
  rw [receiveOctet_collecting inTime]
  exact if_pos short

variable (full : len.toNat ≤ taken.length)
include full

theorem receiveOctet_high : receiveOctet now (.collecting last (some len) taken none) o =
    (.collecting now (some len) taken (some o), none) := by
  rw [receiveOctet_collecting inTime]
  exact if_neg (Nat.not_lt_of_le full)

theorem receiveOctet_low {h : Octet} : receiveOctet now (.collecting last (some len) taken (some h)) o =
    (.hunting, validFrame len taken h o) := by
  rw [receiveOctet_collecting inTime]
  exact if_neg (Nat.not_lt_of_le full)

end Octet

/-- Settles O51: the receiver's cases, each by what `receiveOctet` makes of it. -/
theorem octetsAreCollected : Obligations.OctetsAreCollected := by
  refine ⟨fun s o off => ?_, fun s o r operating => ⟨exec_octetReceived_of_none operating,
    fun f => exec_octetReceived_of_some operating⟩, fun s o operating goes hgoes => ?_⟩
  · show execOctetReceived o s = _
    rw [execOctetReceived, if_neg off]
    rfl
  · have reaches : ∀ r, receiveOctet s.time s.link.receiver o = (r, none) → goes r := fun r h =>
      (hgoes r).mpr (exec_octetReceived_of_none operating h)
    refine ⟨fun first hfirst => ⟨fun yes start => reaches _ ?_, fun yes other => reaches _ ?_⟩,
      fun last taken high collecting inTime => ⟨fun bad => reaches _ ?_, fun least most => reaches _ ?_⟩,
      fun last len taken high collecting inTime => ⟨fun short => reaches _ ?_, fun full absent => reaches _ ?_,
        fun h full present => ⟨fun wrong => reaches _ ?_, fun kind tag body whole right => ?_⟩⟩⟩
    · rw [receiveOctet_first (hfirst.mp yes), hunt]
      exact congrArg (·, none) (if_pos start)
    · rw [receiveOctet_first (hfirst.mp yes), hunt]
      exact congrArg (·, none) (if_neg other)
    · rw [collecting, receiveOctet_badLen inTime bad]
    · rw [collecting, receiveOctet_len inTime least most]
    · rw [collecting, receiveOctet_body inTime short]
    · rw [collecting, absent, receiveOctet_high inTime full]
    · rw [collecting, present, receiveOctet_low inTime full, validFrame, if_neg wrong]
    · refine exec_octetReceived_of_some operating ?_
      rw [collecting, present, receiveOctet_low inTime full, validFrame, if_pos right, whole]
      rfl

/-! ### A whole frame (R148, R150, R164) -/

theorem receiveAll_of_none {now : Stamp} {r r' : Receiver} {o : Octet} {os : List Octet}
    (h : receiveOctet now r o = (r', none)) : receiveAll now r (o :: os) = receiveAll now r' os := by
  rw [receiveAll, h]
  rfl

/-- The octets from KIND on are collected in turn. -/
theorem receiveAll_body {now : Stamp} {len : Octet} (body taken rest : List Octet)
    (fits : taken.length + body.length ≤ len.toNat) :
    receiveAll now (.collecting now (some len) taken none) (body ++ rest) =
      receiveAll now (.collecting now (some len) (taken ++ body) none) rest := by
  induction body generalizing taken with
  | nil => rw [List.nil_append, List.append_nil]
  | cons o body ih =>
    rw [List.length_cons] at fits
    rw [List.cons_append, receiveAll_of_none (receiveOctet_body (Nat.le_add_right _ _) (by omega)),
      ih _ (by rw [List.length_append, List.length_singleton]; omega), List.append_assoc, List.singleton_append]

/-- The check is sent in two octets, the high one first. -/
theorem check_octets (x : BitVec 16) : (x >>> 8).setWidth 8 ++ x.setWidth 8 = x := by
  refine BitVec.eq_of_getLsbD_eq fun i hi => ?_
  rw [BitVec.getLsbD_append]
  split
  next low => simp [low]
  next high =>
    have : i - 8 < 8 := by omega
    simp [this, Nat.add_sub_cancel' (Nat.le_of_not_lt high)]

theorem frameLen_toNat {f : Frame} (fits : f.body.length ≤ 198) : (frameLen f).toNat = f.body.length + 2 := by
  rw [frameLen, oct, BitVec.toNat_ofNat]
  exact Nat.mod_eq_of_lt (by omega)

theorem receiveAll_frameOctets {f : Frame} (now : Stamp) (fits : f.body.length ≤ 198) :
    receiveAll now .hunting (frameOctets f) = (.hunting, [f]) := by
  have len := frameLen_toNat fits
  have start : receiveOctet now .hunting frameStart = (.collecting now none [] none, none) := rfl
  have inTime : now ≤ now + 10 := Nat.le_add_right _ _
  have whole : frameOctets f = frameStart :: frameLen f :: ((f.kind :: f.tag :: f.body) ++
      [(crc (frameChecked f) >>> 8).setWidth 8, (crc (frameChecked f)).setWidth 8]) := rfl
  rw [whole, receiveAll_of_none start, receiveAll_of_none (receiveOctet_len inTime (by omega) (by omega)),
    receiveAll_body _ _ _ (by simp only [List.length_cons, List.length_nil]; omega), List.nil_append,
    receiveAll_of_none (receiveOctet_high inTime (by simp only [List.length_cons]; omega)), receiveAll,
    receiveOctet_low inTime (by simp only [List.length_cons]; omega), validFrame, check_octets,
    if_pos (show crc (frameLen f :: f.kind :: f.tag :: f.body) = crc (frameChecked f) from rfl)]
  rfl

/-! ### An octet's levels (R147) -/

/-- The number the data bits write has a one where the level is that of the stop bit. -/
theorem testBit_dataBits (levels : List LineLevel) (i : Nat) :
    (levels.foldr (fun l n => levelBit l + 2 * n) 0).testBit i = decide (levels[i]? = some .stop) := by
  induction levels generalizing i with
  | nil => simp
  | cons l levels ih =>
    rw [List.foldr_cons]
    cases i with
    | zero =>
      cases l with
      | start => simp [levelBit]
      | stop => simp [levelBit, Nat.add_mod]
    | succ i =>
      have half : ∀ n, (levelBit l + 2 * n) / 2 = n := fun n => by
        cases l with
        | start => simp [levelBit]
        | stop => simp only [levelBit]; omega
      rw [Nat.testBit_succ, half, ih, List.getElem?_cons_succ]

theorem lineOctet_getElem? (o : Octet) {i : Nat} (h : i < 8) :
    (lineOctet o)[i + 1]? = some (if o.getLsbD i = true then .stop else .start) := by
  rw [lineOctet, List.cons_append, List.getElem?_cons_succ, List.getElem?_append_left (by simpa using h),
    List.getElem?_map, List.getElem?_range h]
  rfl

/-- What the sampled data bits write is the octet sent. -/
theorem dataOctet_levels (o : Octet) : dataOctet ((List.range 8).map (fun i => dataLevel (o.getLsbD i))) = o := by
  refine BitVec.eq_of_getLsbD_eq fun i hi => ?_
  rw [dataOctet, oct, BitVec.getLsbD_ofNat, testBit_dataBits, List.getElem?_map, List.getElem?_range hi,
    Option.map_some]
  generalize o.getLsbD i = b
  cases b with
  | false => simp [dataLevel]
  | true => simp [dataLevel, hi]

theorem sampleOctet_of_stop {data : List LineLevel} (eight : data.length = 8) :
    sampleOctet (.start :: data ++ [.stop]) = some (.octetReceived (dataOctet data)) := by
  have nine : (data ++ [LineLevel.stop]).length = 9 := by rw [List.length_append, eight, List.length_singleton]
  have taken : (data ++ [LineLevel.stop]).take 8 = data := by rw [← eight, List.take_left]
  rw [List.cons_append, sampleOctet, if_pos nine, List.getLast?_concat, taken]

theorem sampleOctet_of_start {data : List LineLevel} (eight : data.length = 8) :
    sampleOctet (.start :: data ++ [.start]) = some (.frameDiscarded .framingError) := by
  have nine : (data ++ [LineLevel.start]).length = 9 := by rw [List.length_append, eight, List.length_singleton]
  rw [List.cons_append, sampleOctet, if_pos nine, List.getLast?_concat]

/-- Settles O54: the receiver collects what the part sends, and the straps are sampled by POWER_ON alone. -/
theorem framesAreReceived : Obligations.FramesAreReceived := by
  refine ⟨fun f now => receiveAll_frameOctets now, fun o => ⟨rfl, rfl, rfl, fun i => lineOctet_getElem? o, ?_,
    fun data => sampleOctet_of_start⟩, fun f => ⟨rfl, ?_⟩, fun unit press ignore => ⟨rfl, rfl, rfl, rfl⟩,
    fun i s t run => ?_⟩
  · exact (sampleOctet_of_stop (by simp)).trans (congrArg (some ∘ Instr.octetReceived) (dataOctet_levels o))
  · have high : ∀ x : BitVec 16, (x >>> 8).setWidth 8 = x.extractLsb' 8 8 := fun x => by
      refine BitVec.eq_of_getLsbD_eq fun i hi => ?_
      simp [hi]
    have low : ∀ x : BitVec 16, x.setWidth 8 = x.extractLsb' 0 8 := fun x => by
      refine BitVec.eq_of_getLsbD_eq fun i hi => ?_
      simp [hi]
    rw [frameOctets, high, low]
    rfl
  · obtain ⟨straps, rfl⟩ | same := (straps_eventsLead s.straps).exec rfl run
    · obtain rfl := Host.Outcome.next.inj run
      exact .inr ⟨straps, rfl, rfl⟩
    · exact .inl same

end Sys2Proof.Machine
end

section
/-! PROOFS. Requests read back from their frames (R163, R167, R168). -/

namespace Sys2Proof.Machine

/-! ### Numbers and lists in octets (R163, R167) -/

theorem toNat_oct {n : Nat} (h : n < 2 ^ 8) : (oct n).toNat = n := by
  rw [oct, BitVec.toNat_ofNat, Nat.mod_eq_of_lt h]

theorem num2_oct2 {n : Nat} (h : n < 2 ^ 16) : num2 (oct (n / 2 ^ 8)) (oct n) = n := by
  rw [num2, toNat_oct (by omega), oct, BitVec.toNat_ofNat]
  omega

theorem map_toNat_oct {ns : List Nat} (h : ∀ n ∈ ns, n < 2 ^ 8) : (ns.map oct).map BitVec.toNat = ns := by
  rw [List.map_map]
  exact (List.map_congr_left fun n mem => toNat_oct (h n mem)).trans (List.map_id' ns)

theorem counted_of_length {α : Type} {es : List α} (h : es.length < 2 ^ 8) :
    counted (oct es.length) (some es) = some es := if_pos (toNat_oct h).symm

theorem readEntries_flatMap {es : List ModuleEntryField} (fit : ∀ e ∈ es, e.fits = true) :
    readEntries (es.flatMap entryOctets) = some es := by
  induction es with
  | nil => rfl
  | cons e es ih =>
    obtain ⟨own, rest⟩ := List.forall_mem_cons.mp fit
    simp only [ModuleEntryField.fits, fitsOctet, fitsTwo, Bool.and_eq_true, decide_eq_true_eq] at own
    obtain ⟨⟨slot, size⟩, last⟩ := own
    show (readEntries (es.flatMap entryOctets)).map _ = _
    rw [ih rest, toNat_oct slot, toNat_oct size, num2_oct2 last]
    rfl

theorem readRefs_flatMap {rs : List ReferenceField} (fit : ∀ r ∈ rs, r.fits = true) :
    readRefs (rs.flatMap refOctets) = some rs := by
  induction rs with
  | nil => rfl
  | cons r rs ih =>
    obtain ⟨own, rest⟩ := List.forall_mem_cons.mp fit
    simp only [ReferenceField.fits, fitsOctet, fitsTwo, Bool.and_eq_true, decide_eq_true_eq] at own
    obtain ⟨⟨contact, role⟩, invert⟩ := own
    show (readRefs (rs.flatMap refOctets)).map _ = _
    rw [ih rest, num2_oct2 contact, toNat_oct role, toNat_oct invert]
    rfl

theorem readItems_flatMap {cs : List CheckItemField} (fit : ∀ c ∈ cs, c.fits = true) :
    readItems (cs.flatMap itemOctets) = some cs := by
  induction cs with
  | nil => rfl
  | cons c cs ih =>
    obtain ⟨own, rest⟩ := List.forall_mem_cons.mp fit
    simp only [CheckItemField.fits, fitsOctet, fitsTwo, Bool.and_eq_true, decide_eq_true_eq] at own
    obtain ⟨⟨⟨object, code⟩, aspect⟩, flashing⟩ := own
    show (readItems (cs.flatMap itemOctets)).map _ = _
    rw [ih rest, num2_oct2 object, toNat_oct code, toNat_oct aspect, toNat_oct flashing]
    rfl

/-- Entries of one length each. -/
theorem length_flatMap_const {α : Type} {f : α → List Octet} {k : Nat} (each : ∀ x, (f x).length = k) (xs : List α) :
    (xs.flatMap f).length = k * xs.length := by
  induction xs with
  | nil => rfl
  | cons x xs ih => rw [List.flatMap_cons, List.length_append, each, ih, List.length_cons, Nat.mul_succ, Nat.add_comm]

/-! ### A request and its frame (R168) -/

/-- The request's frame fits the line and is read as the request. -/
def ReadsBack (i : Instr) : Prop := ∀ f, encodeRequest i = some f →
  decodeRequest f = .request i ∧ f.body.length ≤ 198 ∧ f.kind ∈ requestKinds

theorem readsBack_of {i : Instr} {kind tag : Octet} {body : List Octet}
    (frame : encodeRequest i = some ⟨kind, tag, body⟩) (decoded : decodeRequest ⟨kind, tag, body⟩ = .request i)
    (short : body.length ≤ 198) (known : kind ∈ requestKinds := by decide) : ReadsBack i := by
  intro f encoded
  obtain rfl := Option.some.inj (frame.symm.trans encoded)
  exact ⟨decoded, short, known⟩

section Readers

variable {a b : Nat}

theorem readOne_oct (mk : Nat → Instr) (ha : a < 2 ^ 8) : readOne mk [oct a] = .request (mk a) := by
  rw [readOne, toNat_oct ha]

theorem readTwo_oct (mk : Nat → Nat → Instr) (ha : a < 2 ^ 8) (hb : b < 2 ^ 8) :
    readTwo mk [oct a, oct b] = .request (mk a b) := by
  rw [readTwo, toNat_oct ha, toNat_oct hb]

theorem readWide_oct (mk : Nat → Instr) (ha : a < 2 ^ 16) : readWide mk (oct2 a) = .request (mk a) := by
  rw [oct2, readWide, num2_oct2 ha]

theorem readWideCount_oct (mk : Nat → Nat → Instr) (ha : a < 2 ^ 16) (hb : b < 2 ^ 8) :
    readWideCount mk (oct2 a ++ [oct b]) = .request (mk a b) := by
  rw [oct2, List.cons_append, List.singleton_append, readWideCount, num2_oct2 ha, toNat_oct hb]

end Readers

section Lists

variable {tag : Octet}

theorem readsBack_defineModules {es : List ModuleEntryField} (fit : ∀ e ∈ es, e.fits = true)
    (body : 1 + 4 * es.length ≤ 198) : ReadsBack (.defineModules tag es) := by
  refine readsBack_of rfl ?_ ?_
  · show readDefineModules tag (oct es.length :: es.flatMap entryOctets) = _
    rw [readDefineModules, readEntries_flatMap fit, counted_of_length (by omega)]
  · rw [List.length_cons, length_flatMap_const (k := 4) (fun _ => rfl)]
    omega

theorem readsBack_check {cs : List CheckItemField} (fit : ∀ c ∈ cs, c.fits = true)
    (body : 1 + 5 * cs.length ≤ 198) : ReadsBack (.check tag cs) := by
  refine readsBack_of rfl ?_ ?_
  · show readCheck tag (oct cs.length :: cs.flatMap itemOctets) = _
    rw [readCheck, readItems_flatMap fit, counted_of_length (by omega)]
  · rw [List.length_cons, length_flatMap_const (k := 5) (fun _ => rfl)]
    omega

theorem readsBack_defineObject {n k u v : Nat} {rs : List ReferenceField} (hn : n < 2 ^ 16) (hk : k < 2 ^ 8)
    (hu : u < 2 ^ 8) (hv : v < 2 ^ 16) (fit : ∀ r ∈ rs, r.fits = true) (body : 7 + 4 * rs.length ≤ 198) :
    ReadsBack (.defineObject tag n k u v rs) := by
  refine readsBack_of rfl ?_ ?_
  · show readDefineObject tag (oct (n / 2 ^ 8) :: oct n :: oct k :: oct u :: oct (v / 2 ^ 8) :: oct v ::
      oct rs.length :: rs.flatMap refOctets) = _
    rw [readDefineObject, readRefs_flatMap fit, counted_of_length (by omega), num2_oct2 hn, num2_oct2 hv, toNat_oct hk,
      toNat_oct hu]
  · simp only [oct2, List.length_append, List.length_cons, List.length_nil,
      length_flatMap_const (f := refOctets) (k := 4) (fun _ => rfl)]
    omega

theorem readsBack_press {g gap watch : Nat} {steps : List Nat} {items : List CheckItemField} (hg : g < 2 ^ 16)
    (hs : ∀ n ∈ steps, n < 2 ^ 8) (hgap : gap < 2 ^ 16) (hw : watch < 2 ^ 16) (fit : ∀ c ∈ items, c.fits = true)
    (body : 8 + steps.length + 5 * items.length ≤ 198) : ReadsBack (.press tag g steps gap watch items) := by
  refine readsBack_of rfl ?_ ?_
  · show readPress tag (oct (g / 2 ^ 8) :: oct g :: oct steps.length :: ((steps.map oct ++ oct2 gap ++ oct2 watch)
      ++ oct items.length :: items.flatMap itemOctets)) = _
    have count : (oct steps.length).toNat = (steps.map oct).length := by
      rw [toNat_oct (by omega), List.length_map]
    have whole : steps.map oct ++ oct2 gap ++ oct2 watch ++ oct items.length :: items.flatMap itemOctets =
        steps.map oct ++ (oct (gap / 2 ^ 8) :: oct gap :: oct (watch / 2 ^ 8) :: oct watch :: oct items.length ::
          items.flatMap itemOctets) := by
      rw [List.append_assoc, List.append_assoc]
      rfl
    rw [whole, readPress, count, if_pos (by rw [List.length_append]; omega), List.take_left, List.drop_left,
      readPressRest, readItems_flatMap fit, counted_of_length (by omega), num2_oct2 hg, num2_oct2 hgap, num2_oct2 hw,
      map_toNat_oct hs]
  · simp only [oct2, List.length_append, List.length_cons, List.length_nil, List.length_map,
      length_flatMap_const (f := itemOctets) (k := 5) (fun _ => rfl)]
    omega

end Lists

theorem fitsOctet_iff {n : Nat} : fitsOctet n = true ↔ n < 2 ^ 8 := decide_eq_true_iff

theorem fitsTwo_iff {n : Nat} : fitsTwo n = true ↔ n < 2 ^ 16 := decide_eq_true_iff

theorem fitsBody_iff {n : Nat} : fitsBody n = true ↔ n ≤ 198 := decide_eq_true_iff

/-- A request that can be sent is read back from its frame (R168). -/
theorem readsBack {i : Instr} (h : WellFormed i = true) : ReadsBack i := by
  cases i
  case identify | readTime | sync | save | storeStatus | restart | pressInhibitOn | pressInhibitOff =>
    exact readsBack_of rfl rfl (by decide)
  case powerOn | powerLoss | startUpLoadComplete | scanStart | scanCompletion | objectTimerExpiry | pulseEnd
      | windowExpiry | gapExpiry | watchExpiry | saveWritingEnd | saveCompletion | frameDiscarded | requestDropped
      | unknownKind | echoFrame | frameSent | octetReceived =>
    exact fun f e => nomatch e
  all_goals simp only [WellFormed, Bool.and_eq_true, fitsOctet_iff, fitsTwo_iff, fitsBody_iff, List.all_eq_true] at h
  case setMode tag m => exact readsBack_of rfl (readOne_oct _ h) (by simp)
  case flow tag v => exact readsBack_of rfl (readOne_oct _ h) (by simp)
  case pressStatus tag k => exact readsBack_of rfl (readOne_oct _ h) (by simp)
  case pressAbort tag k => exact readsBack_of rfl (readOne_oct _ h) (by simp)
  case fetch tag x c => exact readsBack_of rfl (readTwo_oct _ h.1 h.2) (by simp)
  case setScan tag p t => exact readsBack_of rfl (readTwo_oct _ h.1 h.2) (by simp)
  case readModules tag x c => exact readsBack_of rfl (readTwo_oct _ h.1 h.2) (by simp)
  case readOutputs tag x c => exact readsBack_of rfl (readTwo_oct _ h.1 h.2) (by simp)
  case removeObject tag n => exact readsBack_of rfl (readWide_oct _ h) (by simp [oct2])
  case readDefinition tag n => exact readsBack_of rfl (readWide_oct _ h) (by simp [oct2])
  case readContacts tag x c => exact readsBack_of rfl (readWideCount_oct _ h.1 h.2) (by simp [oct2])
  case readObjects tag x c => exact readsBack_of rfl (readWideCount_oct _ h.1 h.2) (by simp [oct2])
  case moduleServiceOut tag k =>
    exact readsBack_of rfl (congrArg (fun n => Decoded.request (.moduleServiceOut tag n)) (toNat_oct h)) (by simp)
  case moduleServiceIn tag k =>
    exact readsBack_of rfl (congrArg (fun n => Decoded.request (.moduleServiceIn tag n)) (toNat_oct h)) (by simp)
  case objectServiceOut tag n =>
    exact readsBack_of rfl (congrArg (fun n => Decoded.request (.objectServiceOut tag n)) (num2_oct2 h))
      (by simp [oct2])
  case objectServiceIn tag n =>
    exact readsBack_of rfl (congrArg (fun n => Decoded.request (.objectServiceIn tag n)) (num2_oct2 h)) (by simp [oct2])
  case clearLatchObject tag n =>
    exact readsBack_of rfl (congrArg (fun n => Decoded.request (.clearLatchObject tag n)) (num2_oct2 h))
      (by simp [oct2])
  case clearLatchModule tag n =>
    exact readsBack_of rfl (congrArg (fun n => Decoded.request (.clearLatchModule tag n)) (num2_oct2 h))
      (by simp [oct2])
  case clearLatchOutput tag n =>
    exact readsBack_of rfl (congrArg (fun n => Decoded.request (.clearLatchOutput tag n)) (num2_oct2 h))
      (by simp [oct2])
  case defineProfile tag p k v l flash =>
    obtain ⟨⟨⟨⟨hp, hk⟩, hv⟩, hl⟩, hflash⟩ := h
    refine readsBack_of rfl ?_ (by simp [oct2])
    show Decoded.request (.defineProfile tag (oct p).toNat (oct k).toNat (oct v).toNat
      (num2 (oct (l / 2 ^ 8)) (oct l)) (oct flash).toNat) = _
    rw [toNat_oct hp, toNat_oct hk, toNat_oct hv, num2_oct2 hl, toNat_oct hflash]
  case assignProfile tag x y p =>
    obtain ⟨⟨hx, hy⟩, hp⟩ := h
    refine readsBack_of rfl ?_ (by simp [oct2])
    show Decoded.request (.assignProfile tag (num2 (oct (x / 2 ^ 8)) (oct x)) (num2 (oct (y / 2 ^ 8)) (oct y))
      (oct p).toNat) = _
    rw [num2_oct2 hx, num2_oct2 hy, toNat_oct hp]
  case defineFlash tag p x y c d e v =>
    obtain ⟨⟨⟨⟨⟨⟨hp, hx⟩, hy⟩, hc⟩, hd⟩, he⟩, hv⟩ := h
    refine readsBack_of rfl ?_ (by simp [oct2])
    show Decoded.request (.defineFlash tag (oct p).toNat (num2 (oct (x / 2 ^ 8)) (oct x))
      (num2 (oct (y / 2 ^ 8)) (oct y)) (oct c).toNat (oct d).toNat (oct e).toNat (oct v).toNat) = _
    rw [toNat_oct hp, num2_oct2 hx, num2_oct2 hy, toNat_oct hc, toNat_oct hd, toNat_oct he, toNat_oct hv]
  case defineOutput tag o d p r v =>
    obtain ⟨⟨⟨⟨ho, hd⟩, hp⟩, hr⟩, hv⟩ := h
    refine readsBack_of rfl ?_ (by simp [oct2])
    show Decoded.request (.defineOutput tag (oct o).toNat (oct d).toNat (num2 (oct (p / 2 ^ 8)) (oct p))
      (num2 (oct (r / 2 ^ 8)) (oct r)) (oct v).toNat) = _
    rw [toNat_oct ho, toNat_oct hd, num2_oct2 hp, num2_oct2 hr, toNat_oct hv]
  case defineModules tag es => exact readsBack_defineModules h.1 h.2
  case check tag cs => exact readsBack_check h.1 h.2
  case defineObject tag n k u v rs =>
    obtain ⟨⟨⟨⟨⟨hn, hk⟩, hu⟩, hv⟩, fit⟩, body⟩ := h
    exact readsBack_defineObject hn hk hu hv fit body
  case press tag g steps gap watch items =>
    obtain ⟨⟨⟨⟨⟨hg, hs⟩, hgap⟩, hw⟩, fit⟩, body⟩ := h
    exact readsBack_press hg hs hgap hw fit body

/-- Settles O55: each row's frame by computation, and reading it back by what the readers make of it. -/
theorem requestsAreReadBack : Obligations.RequestsAreReadBack := by
  refine ⟨fun i f sendable frame => ?_, fun tag two h => ?_⟩
  · obtain ⟨decoded, short, known⟩ := readsBack sendable f frame
    refine ⟨decoded, short, known, fun s => ?_⟩
    rw [exec_of_request frame, State.handFrame, decoded]
    rfl
  · obtain rfl : two = oct2 := funext h
    refine ⟨⟨rfl, rfl, fun _ => rfl, fun _ => rfl, fun _ _ => rfl, rfl⟩,
      ⟨fun _ _ => rfl, fun _ => rfl, fun _ => rfl, fun _ => rfl, fun _ _ => rfl⟩,
      ⟨fun _ _ _ _ _ => rfl, fun _ _ _ => rfl, fun _ _ _ _ _ _ _ => rfl, fun _ _ => rfl⟩,
      ⟨fun _ _ _ _ _ => ?_, fun _ => rfl, fun _ => rfl, fun _ => rfl, fun _ => rfl, fun _ _ => rfl, fun _ => rfl,
        fun _ => rfl, fun _ => rfl, fun _ => rfl⟩,
      ⟨fun _ _ _ _ _ => rfl, fun _ _ _ _ _ => ?_, fun _ => rfl, fun _ => rfl, rfl, rfl, fun _ _ => rfl⟩, rfl, rfl, rfl⟩
    · rfl
    · simp only [encodeRequest, List.append_assoc]
      rfl

end Sys2Proof.Machine
end

section
/-! PROOFS. What becomes of a valid frame that is not simply served: the layouts of bodies, and the frame's treatment
(R151, R152, R154, R159, R161, R162, R168, R170). -/

namespace Sys2Proof.Machine

/-! ### Bodies of one length (R168) -/

/-- A reader refuses every body but those of this length. -/
def TakesLength (n : Nat) (read : List Octet → Decoded) : Prop := ∀ b, read b = .badLength ↔ b.length ≠ n

theorem takesLength_readEmpty (i : Instr) : TakesLength 0 (readEmpty i) := by
  rintro (_ | ⟨a, b⟩) <;> simp [readEmpty]

theorem takesLength_readOne (mk : Nat → Instr) : TakesLength 1 (readOne mk) := by
  rintro (_ | ⟨a, _ | ⟨b, r⟩⟩) <;> simp [readOne]

theorem takesLength_readTwo (mk : Nat → Nat → Instr) : TakesLength 2 (readTwo mk) := by
  rintro (_ | ⟨a, _ | ⟨b, _ | ⟨c, r⟩⟩⟩) <;> simp [readTwo]

theorem takesLength_readWide (mk : Nat → Instr) : TakesLength 2 (readWide mk) := by
  rintro (_ | ⟨a, _ | ⟨b, _ | ⟨c, r⟩⟩⟩) <;> simp [readWide]

theorem takesLength_readWideCount (mk : Nat → Nat → Instr) : TakesLength 3 (readWideCount mk) := by
  rintro (_ | ⟨a, _ | ⟨b, _ | ⟨c, _ | ⟨d, r⟩⟩⟩⟩) <;> simp [readWideCount]

theorem takesLength_readDefineProfile (tag : Octet) : TakesLength 6 (readDefineProfile tag) := by
  rintro (_ | ⟨a, _ | ⟨b, _ | ⟨c, _ | ⟨d, _ | ⟨e, _ | ⟨f, _ | ⟨g, r⟩⟩⟩⟩⟩⟩⟩) <;> simp [readDefineProfile]

theorem takesLength_readAssignProfile (tag : Octet) : TakesLength 5 (readAssignProfile tag) := by
  rintro (_ | ⟨a, _ | ⟨b, _ | ⟨c, _ | ⟨d, _ | ⟨e, _ | ⟨f, r⟩⟩⟩⟩⟩⟩) <;> simp [readAssignProfile]

theorem takesLength_readDefineFlash (tag : Octet) : TakesLength 9 (readDefineFlash tag) := by
  rintro (_ | ⟨a, _ | ⟨b, _ | ⟨c, _ | ⟨d, _ | ⟨e, _ | ⟨f, _ | ⟨g, _ | ⟨h, _ | ⟨i, _ | ⟨j, r⟩⟩⟩⟩⟩⟩⟩⟩⟩⟩) <;>
    simp [readDefineFlash]

theorem takesLength_readDefineOutput (tag : Octet) : TakesLength 7 (readDefineOutput tag) := by
  rintro (_ | ⟨a, _ | ⟨b, _ | ⟨c, _ | ⟨d, _ | ⟨e, _ | ⟨f, _ | ⟨g, _ | ⟨h, r⟩⟩⟩⟩⟩⟩⟩⟩) <;> simp [readDefineOutput]

theorem readModuleService_ne (tag a b : Octet) : readModuleService tag a b ≠ .badLength := by
  unfold readModuleService
  split_ifs <;> simp

theorem readObjectService_ne (tag a b c : Octet) : readObjectService tag a b c ≠ .badLength := by
  unfold readObjectService
  split_ifs <;> simp

theorem readClearLatch_ne (tag a b c : Octet) : readClearLatch tag a b c ≠ .badLength := by
  unfold readClearLatch
  split_ifs <;> simp

theorem readPressInhibit_ne (tag a : Octet) : readPressInhibit tag a ≠ .badLength := by
  unfold readPressInhibit
  split_ifs <;> simp

theorem takesLength_readModuleServiceBody (tag : Octet) : TakesLength 2 (readModuleServiceBody tag) := by
  rintro (_ | ⟨a, _ | ⟨b, _ | ⟨c, r⟩⟩⟩) <;> simp [readModuleServiceBody, readModuleService_ne]

theorem takesLength_readObjectServiceBody (tag : Octet) : TakesLength 3 (readObjectServiceBody tag) := by
  rintro (_ | ⟨a, _ | ⟨b, _ | ⟨c, _ | ⟨d, r⟩⟩⟩⟩) <;> simp [readObjectServiceBody, readObjectService_ne]

theorem takesLength_readClearLatchBody (tag : Octet) : TakesLength 3 (readClearLatchBody tag) := by
  rintro (_ | ⟨a, _ | ⟨b, _ | ⟨c, _ | ⟨d, r⟩⟩⟩⟩) <;> simp [readClearLatchBody, readClearLatch_ne]

theorem takesLength_readPressInhibitBody (tag : Octet) : TakesLength 1 (readPressInhibitBody tag) := by
  rintro (_ | ⟨a, _ | ⟨b, r⟩⟩) <;> simp [readPressInhibitBody, readPressInhibit_ne]

/-! ### Counted lists (R167) -/

/-- A reader of a list takes exactly the octets of a number of entries. -/
def TakesEntries {α : Type} (k : Nat) (read : List Octet → Option (List α)) : Prop :=
  ∀ l m, (∃ es, read l = some es ∧ es.length = m) ↔ l.length = k * m

theorem takesEntries_readEntries : TakesEntries 4 readEntries := by
  intro l
  induction l using readEntries.induct with
  | case1 => exact fun m => by simp [readEntries, eq_comm]
  | case2 a b c d rest ih =>
    intro m
    cases m with
    | zero => simp [readEntries]
    | succ m => simpa [readEntries, Nat.mul_succ] using ih m
  | case3 l no four =>
    intro m
    obtain _ | ⟨a, _ | ⟨b, _ | ⟨c, _ | ⟨d, r⟩⟩⟩⟩ := l
    · exact absurd rfl no
    case cons.cons.cons.cons => exact absurd rfl (four a b c d r)
    all_goals
      simp only [readEntries, List.length_cons, List.length_nil]
      exact iff_of_false (fun ⟨_, e, _⟩ => nomatch e) (by omega)

theorem takesEntries_readRefs : TakesEntries 4 readRefs := by
  intro l
  induction l using readRefs.induct with
  | case1 => exact fun m => by simp [readRefs, eq_comm]
  | case2 a b c d rest ih =>
    intro m
    cases m with
    | zero => simp [readRefs]
    | succ m => simpa [readRefs, Nat.mul_succ] using ih m
  | case3 l no four =>
    intro m
    obtain _ | ⟨a, _ | ⟨b, _ | ⟨c, _ | ⟨d, r⟩⟩⟩⟩ := l
    · exact absurd rfl no
    case cons.cons.cons.cons => exact absurd rfl (four a b c d r)
    all_goals
      simp only [readRefs, List.length_cons, List.length_nil]
      exact iff_of_false (fun ⟨_, e, _⟩ => nomatch e) (by omega)

theorem takesEntries_readItems : TakesEntries 5 readItems := by
  intro l
  induction l using readItems.induct with
  | case1 => exact fun m => by simp [readItems, eq_comm]
  | case2 a b c d e rest ih =>
    intro m
    cases m with
    | zero => simp [readItems]
    | succ m => simpa [readItems, Nat.mul_succ] using ih m
  | case3 l no five =>
    intro m
    obtain _ | ⟨a, _ | ⟨b, _ | ⟨c, _ | ⟨d, _ | ⟨e, r⟩⟩⟩⟩⟩ := l
    · exact absurd rfl no
    case cons.cons.cons.cons.cons => exact absurd rfl (five a b c d e r)
    all_goals
      simp only [readItems, List.length_cons, List.length_nil]
      exact iff_of_false (fun ⟨_, e, _⟩ => nomatch e) (by omega)

theorem TakesEntries.counted_eq_none_iff {α : Type} {k : Nat} {read : List Octet → Option (List α)}
    (takes : TakesEntries k read) (n : Octet) (l : List Octet) :
    counted n (read l) = none ↔ l.length ≠ k * n.toNat := by
  rw [Ne, ← takes l n.toNat]
  cases read l with
  | none => simp [counted]
  | some es => simp [counted]

theorem readDefineModules_badLength_iff (tag : Octet) (b : List Octet) : readDefineModules tag b = .badLength ↔
    ¬ ∃ n entries, b = n :: entries ∧ entries.length = 4 * n.toNat := by
  cases b with
  | nil => simp [readDefineModules]
  | cons n rest =>
    have none_iff := takesEntries_readEntries.counted_eq_none_iff n rest
    cases read : counted n (readEntries rest) with
    | none => simp [readDefineModules, read, none_iff.mp read]
    | some es =>
      have fits : rest.length = 4 * n.toNat := by simpa [read] using none_iff
      simp [readDefineModules, read, fits]

theorem readCheck_badLength_iff (tag : Octet) (b : List Octet) : readCheck tag b = .badLength ↔
    ¬ ∃ n items, b = n :: items ∧ items.length = 5 * n.toNat := by
  cases b with
  | nil => simp [readCheck]
  | cons n rest =>
    have none_iff := takesEntries_readItems.counted_eq_none_iff n rest
    cases read : counted n (readItems rest) with
    | none => simp [readCheck, read, none_iff.mp read]
    | some es =>
      have fits : rest.length = 5 * n.toNat := by simpa [read] using none_iff
      simp [readCheck, read, fits]

/-- A body is a fixed part of this length, a count octet, and what the count allows. -/
def Counts (first k : Nat) (b : List Octet) : Prop :=
  ∃ fixed n entries, b = fixed ++ n :: entries ∧ fixed.length = first ∧ entries.length = k * BitVec.toNat (n : Octet)

theorem counts_append {first k : Nat} {fixed : List Octet} {n : Octet} {entries : List Octet}
    (length : fixed.length = first) : Counts first k (fixed ++ n :: entries) ↔ entries.length = k * n.toNat := by
  constructor
  · rintro ⟨fixed', n', entries', split, length', fits⟩
    obtain ⟨-, tail⟩ := List.append_inj split (length.trans length'.symm)
    obtain ⟨rfl, rfl⟩ := List.cons.inj tail
    exact fits
  · exact fun fits => ⟨fixed, n, entries, rfl, length, fits⟩

theorem not_counts_of_short {first k : Nat} {b : List Octet} (short : b.length ≤ first) : ¬ Counts first k b := by
  rintro ⟨fixed, n, entries, rfl, length, -⟩
  rw [List.length_append, List.length_cons] at short
  omega

theorem readDefineObject_badLength_iff (tag : Octet) (b : List Octet) :
    readDefineObject tag b = .badLength ↔ ¬ Counts 6 4 b := by
  obtain _ | ⟨a, _ | ⟨b, _ | ⟨c, _ | ⟨d, _ | ⟨e, _ | ⟨f, _ | ⟨n, rest⟩⟩⟩⟩⟩⟩⟩ := b
  case cons.cons.cons.cons.cons.cons.cons =>
    have counts : Counts 6 4 (a :: b :: c :: d :: e :: f :: n :: rest) ↔ _ :=
      counts_append (fixed := [a, b, c, d, e, f]) rfl
    rw [counts, ← Ne, ← takesEntries_readRefs.counted_eq_none_iff n rest, readDefineObject]
    cases counted n (readRefs rest) with
    | none => simp
    | some es => simp
  all_goals exact iff_of_true rfl (not_counts_of_short (by simp))

theorem readPressRest_badLength_iff (tag th tl : Octet) (steps b : List Octet) :
    readPressRest tag th tl steps b = .badLength ↔ ¬ Counts 4 5 b := by
  obtain _ | ⟨a, _ | ⟨b, _ | ⟨c, _ | ⟨d, _ | ⟨n, rest⟩⟩⟩⟩⟩ := b
  case cons.cons.cons.cons.cons =>
    have counts : Counts 4 5 (a :: b :: c :: d :: n :: rest) ↔ _ := counts_append (fixed := [a, b, c, d]) rfl
    rw [counts, ← Ne, ← takesEntries_readItems.counted_eq_none_iff n rest, readPressRest]
    cases counted n (readItems rest) with
    | none => simp
    | some es => simp
  all_goals exact iff_of_true rfl (not_counts_of_short (by simp))

/-- A PRESS body: the desk tag, the counted steps, the times, the counted items (R167). -/
theorem readPress_badLength_iff (tag : Octet) (b : List Octet) : readPress tag b = .badLength ↔
    ¬ ∃ deskTag n steps times m items, b = deskTag ++ n :: (steps ++ times ++ m :: items) ∧ deskTag.length = 2 ∧
      steps.length = BitVec.toNat (n : Octet) ∧ times.length = 4 ∧ items.length = 5 * BitVec.toNat (m : Octet) := by
  obtain short | ⟨th, tl, n, rest, rfl⟩ : b.length < 3 ∨ ∃ th tl n rest, b = th :: tl :: n :: rest := by
    obtain _ | ⟨a, _ | ⟨b, _ | ⟨c, r⟩⟩⟩ := b
    case cons.cons.cons => exact .inr ⟨a, b, c, r, rfl⟩
    all_goals exact .inl (by simp)
  · refine iff_of_true ?_ ?_
    · obtain _ | ⟨a, _ | ⟨b, _ | ⟨c, r⟩⟩⟩ := b
      case cons.cons.cons =>
        simp only [List.length_cons] at short
        omega
      all_goals rfl
    · rintro ⟨deskTag, n, steps, times, m, items, rfl, two, -⟩
      rw [List.length_append, List.length_cons] at short
      omega
  · have parts :
      (∃ deskTag k steps times m items, th :: tl :: n :: rest = deskTag ++ k :: (steps ++ times ++ m :: items) ∧
        deskTag.length = 2 ∧ steps.length = BitVec.toNat (k : Octet) ∧ times.length = 4 ∧
          items.length = 5 * BitVec.toNat (m : Octet)) ↔
        n.toNat ≤ rest.length ∧ Counts 4 5 (rest.drop n.toNat) := by
      constructor
      · rintro ⟨deskTag, k, steps, times, m, items, split, two, count, four, fits⟩
        obtain ⟨-, tail⟩ := List.append_inj (s₁ := [th, tl]) split two.symm
        obtain ⟨rfl, rfl⟩ := List.cons.inj tail
        rw [List.append_assoc, ← count, List.drop_left, List.length_append]
        exact ⟨Nat.le_add_right _ _, times, m, items, rfl, four, fits⟩
      · rintro ⟨room, times, m, items, split, four, fits⟩
        refine ⟨[th, tl], n, rest.take n.toNat, times, m, items, ?_, rfl, List.length_take_of_le room, four, fits⟩
        rw [List.append_assoc, ← split, List.take_append_drop]
        rfl
    rw [parts, readPress]
    split
    next room =>
      rw [readPressRest_badLength_iff]
      exact not_congr ⟨fun h => ⟨room, h⟩, And.right⟩
    next room => exact iff_of_true rfl fun h => room h.1

/-! ### Codes of no row (R170, R176) -/

theorem octet_above_one {o : Octet} : 1 < o.toNat ↔ o ≠ 0#8 ∧ o ≠ 1#8 := by
  constructor
  · exact fun h => ⟨by rintro rfl; exact absurd h (by decide), by rintro rfl; exact absurd h (by decide)⟩
  · bv_omega

theorem readModuleServiceBody_badCode_iff {tag : Octet} {b : List Octet} {busyFirst : Bool} :
    readModuleServiceBody tag b = .badCode busyFirst ↔
      busyFirst = true ∧ ∃ slot way, b = [slot, way] ∧ 1 < BitVec.toNat (way : Octet) := by
  obtain _ | ⟨slot, _ | ⟨way, _ | ⟨c, r⟩⟩⟩ := b
  case cons.cons.nil =>
    simp only [readModuleServiceBody, readModuleService, octet_above_one]
    by_cases out : way = 0#8
    · simp [out]
    · by_cases into : way = 1#8
      · simp [into]
      · simp [out, into]
  all_goals simp [readModuleServiceBody]

theorem readObjectServiceBody_badCode_iff {tag : Octet} {b : List Octet} {busyFirst : Bool} :
    readObjectServiceBody tag b = .badCode busyFirst ↔
      busyFirst = true ∧ ∃ h l way, b = [h, l, way] ∧ 1 < BitVec.toNat (way : Octet) := by
  obtain _ | ⟨h, _ | ⟨l, _ | ⟨way, _ | ⟨d, r⟩⟩⟩⟩ := b
  case cons.cons.cons.nil =>
    simp only [readObjectServiceBody, readObjectService, octet_above_one]
    by_cases out : way = 0#8
    · simp [out]
    · by_cases into : way = 1#8
      · simp [into]
      · simp [out, into]
  all_goals simp [readObjectServiceBody]

theorem readPressInhibitBody_badCode_iff {tag : Octet} {b : List Octet} {busyFirst : Bool} :
    readPressInhibitBody tag b = .badCode busyFirst ↔
      busyFirst = false ∧ ∃ on, b = [on] ∧ 1 < BitVec.toNat (on : Octet) := by
  obtain _ | ⟨on, _ | ⟨d, r⟩⟩ := b
  case cons.nil =>
    simp only [readPressInhibitBody, readPressInhibit, octet_above_one]
    by_cases off : on = 0#8
    · simp [off]
    · by_cases yes : on = 1#8
      · simp [yes]
      · simp [off, yes]
  all_goals simp [readPressInhibitBody]

theorem octet_no_target {o : Octet} : (o = 0#8 ∨ 3 < o.toNat) ↔ o ≠ 1#8 ∧ o ≠ 2#8 ∧ o ≠ 3#8 := by
  constructor
  · rintro (rfl | h)
    · decide
    · refine ⟨?_, ?_, ?_⟩ <;> (rintro rfl; exact absurd h (by decide))
  · bv_omega

theorem readClearLatchBody_badCode_iff {tag : Octet} {b : List Octet} {busyFirst : Bool} :
    readClearLatchBody tag b = .badCode busyFirst ↔ busyFirst = false ∧
      ∃ target h l, b = [target, h, l] ∧ (target = 0#8 ∨ 3 < BitVec.toNat (target : Octet)) := by
  obtain _ | ⟨target, _ | ⟨h, _ | ⟨l, _ | ⟨d, r⟩⟩⟩⟩ := b
  case cons.cons.cons.nil =>
    simp only [readClearLatchBody, readClearLatch, octet_no_target]
    by_cases object : target = 1#8
    · simp [object]
    · by_cases module : target = 2#8
      · simp [module]
      · by_cases output : target = 3#8
        · simp [output]
        · simp [object, module, output]
  all_goals simp [readClearLatchBody]

end Sys2Proof.Machine
end

section
/-! PROOFS. What a valid frame is to its owner, and what becomes of it (R151, R152, R154, R159, R161, R162). -/

namespace Sys2Proof.Machine

/-! ### KINDs that name no request (R152, R168) -/

/-- A body fits or it does not: no other answer is read. -/
def plain : Decoded → Bool
  | .notARequest => false
  | .badLength => true
  | .badCode _ => false
  | .request _ => true

section Plain

variable (tag : Octet) (b : List Octet)

@[simp] theorem plain_readEmpty (i : Instr) : plain (readEmpty i b) = true := by
  unfold readEmpty
  split <;> rfl

@[simp] theorem plain_readOne (mk : Nat → Instr) : plain (readOne mk b) = true := by
  unfold readOne
  split <;> rfl

@[simp] theorem plain_readTwo (mk : Nat → Nat → Instr) : plain (readTwo mk b) = true := by
  unfold readTwo
  split <;> rfl

@[simp] theorem plain_readWide (mk : Nat → Instr) : plain (readWide mk b) = true := by
  unfold readWide
  split <;> rfl

@[simp] theorem plain_readWideCount (mk : Nat → Nat → Instr) : plain (readWideCount mk b) = true := by
  unfold readWideCount
  split <;> rfl

@[simp] theorem plain_readDefineModules : plain (readDefineModules tag b) = true := by
  unfold readDefineModules
  split
  · split <;> rfl
  · rfl

@[simp] theorem plain_readCheck : plain (readCheck tag b) = true := by
  unfold readCheck
  split
  · split <;> rfl
  · rfl

@[simp] theorem plain_readDefineObject : plain (readDefineObject tag b) = true := by
  unfold readDefineObject
  split
  · split <;> rfl
  · rfl

@[simp] theorem plain_readPress : plain (readPress tag b) = true := by
  unfold readPress
  split
  · split
    · unfold readPressRest
      split
      · split <;> rfl
      · rfl
    · rfl
  · rfl

@[simp] theorem plain_readDefineProfile : plain (readDefineProfile tag b) = true := by
  unfold readDefineProfile
  split <;> rfl

@[simp] theorem plain_readAssignProfile : plain (readAssignProfile tag b) = true := by
  unfold readAssignProfile
  split <;> rfl

@[simp] theorem plain_readDefineFlash : plain (readDefineFlash tag b) = true := by
  unfold readDefineFlash
  split <;> rfl

@[simp] theorem plain_readDefineOutput : plain (readDefineOutput tag b) = true := by
  unfold readDefineOutput
  split <;> rfl

@[simp] theorem readModuleServiceBody_judged : readModuleServiceBody tag b ≠ .notARequest := by
  unfold readModuleServiceBody readModuleService
  split
  · split_ifs <;> simp
  · simp

@[simp] theorem readObjectServiceBody_judged : readObjectServiceBody tag b ≠ .notARequest := by
  unfold readObjectServiceBody readObjectService
  split
  · split_ifs <;> simp
  · simp

@[simp] theorem readClearLatchBody_judged : readClearLatchBody tag b ≠ .notARequest := by
  unfold readClearLatchBody readClearLatch
  split
  · split_ifs <;> simp
  · simp

@[simp] theorem readPressInhibitBody_judged : readPressInhibitBody tag b ≠ .notARequest := by
  unfold readPressInhibitBody readPressInhibit
  split
  · split_ifs <;> simp
  · simp

end Plain

theorem ne_of_plain {d : Decoded} (h : plain d = true) : d ≠ .notARequest := by
  rintro rfl
  exact nomatch h

theorem ne_badCode_of_plain {d : Decoded} {busyFirst : Bool} (h : plain d = true) : d ≠ .badCode busyFirst := by
  rintro rfl
  exact nomatch h

theorem mem_requestKinds_of_toNat {kind : Octet} {n : Nat} (h : kind.toNat = n)
    (known : BitVec.ofNat 8 n ∈ requestKinds) : kind ∈ requestKinds := by
  rwa [← h, BitVec.ofNat_toNat, BitVec.setWidth_eq] at known

theorem requestKinds_toNat {kind : Octet} (h : kind ∈ requestKinds) : kind.toNat ∈
    [1, 2, 3, 4, 5, 6, 16, 17, 18, 19, 24, 25, 26, 27, 32, 33, 34, 35, 36, 37, 38, 48, 49, 50, 51, 52, 53, 64,
      65, 66] :=
  List.mem_map_of_mem (f := BitVec.toNat) h

/-- A KIND of the table is read by its row, and no other (R152, R168). -/
theorem decodeRequest_notARequest_iff (f : Frame) : decodeRequest f = .notARequest ↔ f.kind ∉ requestKinds := by
  unfold decodeRequest
  dsimp only
  split
  case h_9 hk =>
    exact iff_of_false (readModuleServiceBody_judged _ _) (not_not_intro (mem_requestKinds_of_toNat hk (by decide)))
  case h_17 hk =>
    exact iff_of_false (readObjectServiceBody_judged _ _) (not_not_intro (mem_requestKinds_of_toNat hk (by decide)))
  case h_21 hk =>
    exact iff_of_false (readClearLatchBody_judged _ _) (not_not_intro (mem_requestKinds_of_toNat hk (by decide)))
  case h_26 hk =>
    exact iff_of_false (readPressInhibitBody_judged _ _) (not_not_intro (mem_requestKinds_of_toNat hk (by decide)))
  case h_31 =>
    refine iff_of_true rfl fun mem => ?_
    have := requestKinds_toNat mem
    simp_all
  all_goals
    next hk => exact iff_of_false (ne_of_plain (by simp)) (not_not_intro (mem_requestKinds_of_toNat hk (by decide)))

/-- The codes of no row, and whether the owner looks for BUSY first (R170, R176). -/
theorem decodeRequest_badCode_iff (f : Frame) (busyFirst : Bool) : decodeRequest f = .badCode busyFirst ↔
    (f.kind = 0x12#8 ∧ busyFirst = true ∧ ∃ slot way, f.body = [slot, way] ∧ 1 < way.toNat) ∨
    (f.kind = 0x22#8 ∧ busyFirst = true ∧ ∃ h l way, f.body = [h, l, way] ∧ 1 < way.toNat) ∨
    (f.kind = 0x26#8 ∧ busyFirst = false ∧ ∃ target h l, f.body = [target, h, l] ∧
      (target = 0#8 ∨ 3 < target.toNat)) ∨
    (f.kind = 0x34#8 ∧ busyFirst = false ∧ ∃ on, f.body = [on] ∧ 1 < on.toNat) := by
  constructor
  · intro h
    unfold decodeRequest at h
    dsimp only at h
    split at h
    case h_9 hk => exact .inl ⟨BitVec.eq_of_toNat_eq hk, readModuleServiceBody_badCode_iff.mp h⟩
    case h_17 hk => exact .inr (.inl ⟨BitVec.eq_of_toNat_eq hk, readObjectServiceBody_badCode_iff.mp h⟩)
    case h_21 hk => exact .inr (.inr (.inl ⟨BitVec.eq_of_toNat_eq hk, readClearLatchBody_badCode_iff.mp h⟩))
    case h_26 hk => exact .inr (.inr (.inr ⟨BitVec.eq_of_toNat_eq hk, readPressInhibitBody_badCode_iff.mp h⟩))
    case h_31 => exact nomatch h
    all_goals exact absurd h (ne_badCode_of_plain (by simp))
  · obtain ⟨kind, tag, body⟩ := f
    rintro (⟨rfl, h⟩ | ⟨rfl, h⟩ | ⟨rfl, h⟩ | ⟨rfl, h⟩)
    · exact readModuleServiceBody_badCode_iff.mpr h
    · exact readObjectServiceBody_badCode_iff.mpr h
    · exact readClearLatchBody_badCode_iff.mpr h
    · exact readPressInhibitBody_badCode_iff.mpr h

/-- Bodies of one length (R168). -/
theorem decodeRequest_badLength_iff {f : Frame} {length : Nat}
    (row : (f.kind, length) ∈ [(0x01#8, 0), (0x02#8, 0), (0x03#8, 1), (0x04#8, 1), (0x05#8, 2), (0x06#8, 0),
        (0x10#8, 2), (0x12#8, 2), (0x13#8, 2), (0x18#8, 6), (0x19#8, 5), (0x1A#8, 9), (0x1B#8, 3), (0x21#8, 2),
        (0x22#8, 3), (0x23#8, 2), (0x24#8, 3), (0x26#8, 3), (0x30#8, 7), (0x32#8, 1), (0x33#8, 1), (0x34#8, 1),
        (0x35#8, 2), (0x40#8, 0), (0x41#8, 0), (0x42#8, 0)]) :
    decodeRequest f = .badLength ↔ f.body.length ≠ length := by
  obtain ⟨kind, tag, body⟩ := f
  simp only [List.mem_cons, Prod.mk.injEq, List.not_mem_nil, or_false] at row
  obtain ⟨rfl, rfl⟩ | ⟨rfl, rfl⟩ | ⟨rfl, rfl⟩ | ⟨rfl, rfl⟩ | ⟨rfl, rfl⟩ | ⟨rfl, rfl⟩ | ⟨rfl, rfl⟩ | ⟨rfl, rfl⟩ |
    ⟨rfl, rfl⟩ | ⟨rfl, rfl⟩ | ⟨rfl, rfl⟩ | ⟨rfl, rfl⟩ | ⟨rfl, rfl⟩ | ⟨rfl, rfl⟩ | ⟨rfl, rfl⟩ | ⟨rfl, rfl⟩ |
    ⟨rfl, rfl⟩ | ⟨rfl, rfl⟩ | ⟨rfl, rfl⟩ | ⟨rfl, rfl⟩ | ⟨rfl, rfl⟩ | ⟨rfl, rfl⟩ | ⟨rfl, rfl⟩ | ⟨rfl, rfl⟩ |
    ⟨rfl, rfl⟩ | ⟨rfl, rfl⟩ := row
  exacts [takesLength_readEmpty _ body, takesLength_readEmpty _ body, takesLength_readOne _ body,
    takesLength_readOne _ body, takesLength_readTwo _ body, takesLength_readEmpty _ body, takesLength_readTwo _ body,
    takesLength_readModuleServiceBody tag body, takesLength_readTwo _ body, takesLength_readDefineProfile tag body,
    takesLength_readAssignProfile tag body, takesLength_readDefineFlash tag body, takesLength_readWideCount _ body,
    takesLength_readWide _ body, takesLength_readObjectServiceBody tag body, takesLength_readWide _ body,
    takesLength_readWideCount _ body, takesLength_readClearLatchBody tag body, takesLength_readDefineOutput tag body,
    takesLength_readOne _ body, takesLength_readOne _ body, takesLength_readPressInhibitBody tag body,
    takesLength_readTwo _ body, takesLength_readEmpty _ body, takesLength_readEmpty _ body,
    takesLength_readEmpty _ body]

/-! ### A frame that is not simply served -/

theorem State.takesFrames_iff {s : State} :
    s.takesFrames = true ↔ s.power = .operating ∧ s.link.restarting = false := by
  simp [State.takesFrames]

section Treatment

variable {s : State} {f : Frame} {serve : State → State × Reply}

theorem State.takeFrame_of_deaf (deaf : s.takesFrames = false) : s.takeFrame f serve = s := if_pos deaf

theorem State.takeFrame_of_full (takes : s.takesFrames = true) (full : s.repliesFull = true) :
    s.takeFrame f serve = s.setLink { s.link with dropped := true } := by
  rw [State.takeFrame, if_neg (by simp [takes]), if_pos full]
  rfl

theorem State.takeFrame_of_echo (takes : s.takesFrames = true) (room : s.repliesFull = false)
    (echo : s.link.mode = .echo) (other : f.kind ≠ kindSetMode) : s.takeFrame f serve =
      s.setLink (if s.link.sending.isSome = true
        then { s.link with replies := s.link.replies ++ [f] }
        else { s.link with replies := (s.link.replies ++ [f]).tail, sending := (s.link.replies ++ [f]).head? }) := by
  rw [State.takeFrame, if_neg (by simp [takes]), if_neg (by simp [room]), if_pos ⟨echo, other⟩,
    State.finish_quiet (before := s) (s := s.enqueue f) (fun _ => rfl) (fun _ h => h), State.chooseFrame_enqueue]

theorem State.takeFrame_of_discarded (serves : s.serves) (kind : f.kind = kindDiscarded) :
    s.takeFrame f serve = s := by
  obtain ⟨takes, room, mode⟩ := serves
  rw [State.takeFrame, if_neg (by simp [takes]), if_neg (by simp [room]), if_neg (fun h => mode h.1), if_pos kind]

/-- An owner that changes nothing answers, and that is all. -/
theorem State.takeFrame_answers (serves : s.serves) (kind : f.kind ≠ kindDiscarded) {r : ResultCode}
    (answer : serve s = (s, refusal r)) : s.takeFrame f serve = s.afterReply (f.kind + 0x80#8) f.tag r [] := by
  rw [State.takeFrame_serves serves kind, State.serveFrame_quiet (by simp [answer]) (by simp [answer]), answer]
  rfl

theorem State.handFrame_answers (serves : s.serves) (kind : f.kind ≠ kindDiscarded) {d : Decoded} {r : ResultCode}
    (decoded : decodeRequest f = d) (answer : serveDecoded d s = (s, refusal r)) :
    s.handFrame f = s.afterReply (f.kind + 0x80#8) f.tag r [] :=
  State.takeFrame_answers serves kind (decoded ▸ answer)

/-- No KIND of the table is the one that is discarded. -/
theorem kind_of_request (known : decodeRequest f ≠ .notARequest) : f.kind ≠ kindDiscarded := by
  intro discarded
  refine known ((decodeRequest_notARequest_iff f).mpr ?_)
  rw [discarded]
  decide

theorem exec_unknownKind (unknown : f.kind ∉ requestKinds) : exec (.unknownKind f) s =
    .next (s.takeFrame f (fun t => (t, refusal .unknownKind))) := congrArg Host.Outcome.next (if_neg unknown)

theorem discardFrame_framingError {now last : Stamp} {len : Option Octet} {taken : List Octet} {high : Option Octet} :
    discardFrame now (.collecting last len taken high) .framingError = .hunting := by
  unfold discardFrame
  cases len <;> cases high <;> rfl

theorem discardFrame_gap {now last : Stamp} {len : Option Octet} {taken : List Octet} {high : Option Octet}
    {late : Octet}
    (past : last + 10 < now) : discardFrame now (.collecting last len taken high) (.gap late) = hunt now late := by
  have exceeded := gapExceeded_iff.mpr past
  unfold discardFrame
  cases len <;> cases high <;> exact if_pos exceeded

end Treatment

/-- Settles O52: the decoder's answers by its rows, and the frame's treatment by the checks in their order. -/
theorem framesAreJudged : Obligations.FramesAreJudged := by
  refine ⟨fun s => ⟨State.takesFrames_iff, decide_eq_true_iff, fun f deaf => ⟨State.takeFrame_of_deaf deaf,
      fun i frame => ?_, ?_, ?_, ?_⟩⟩,
    fun s f serves => ⟨fun bad => ?_, fun busyFirst bad => ?_, fun bad kind => ?_⟩,
    fun f => ⟨decodeRequest_notARequest_iff f, fun length => decodeRequest_badLength_iff, fun kind => ?_,
      fun kind => ?_, fun kind => ?_, fun kind => ?_, decodeRequest_badCode_iff f⟩,
    fun s => ⟨fun f takes full => ⟨?_, fun i frame => ?_⟩, fun f serves unknown => ⟨fun other => ?_, fun kind => ?_⟩,
      fun f takes room echo other t ht => ⟨?_, fun i frame => ?_⟩,
      fun last len taken high collecting =>
        ⟨?_, fun inTime absent => ?_, fun inTime got low => ?_, fun late past => ?_⟩⟩⟩
  · rw [exec_of_request frame, State.takeFrame_of_deaf deaf]
  · exact congrArg Host.Outcome.next (if_neg (by simp [deaf]))
  · by_cases known : f.kind ∈ requestKinds
    · exact congrArg Host.Outcome.next (if_pos known)
    · rw [exec_unknownKind known, State.takeFrame_of_deaf deaf]
  · by_cases echoed : s.link.mode = .echo ∧ f.kind ≠ kindSetMode
    · exact congrArg Host.Outcome.next ((if_pos echoed).trans (State.takeFrame_of_deaf deaf))
    · exact congrArg Host.Outcome.next (if_neg echoed)
  · exact State.handFrame_answers serves (kind_of_request (by simp [bad])) bad rfl
  · exact State.handFrame_answers serves (kind_of_request (by simp [bad])) bad rfl
  · exact State.handFrame_answers serves kind bad rfl
  · obtain ⟨_, tag, body⟩ := f
    obtain rfl := kind
    exact readDefineModules_badLength_iff tag body
  · obtain ⟨_, tag, body⟩ := f
    obtain rfl := kind
    exact readDefineObject_badLength_iff tag body
  · obtain ⟨_, tag, body⟩ := f
    obtain rfl := kind
    exact readCheck_badLength_iff tag body
  · obtain ⟨_, tag, body⟩ := f
    obtain rfl := kind
    exact readPress_badLength_iff tag body
  · exact congrArg Host.Outcome.next (if_pos ⟨takes, full⟩)
  · rw [exec_of_request frame, State.takeFrame_of_full takes full]
  · rw [exec_unknownKind unknown, State.takeFrame_answers serves other rfl]
  · rw [exec_unknownKind unknown, State.takeFrame_of_discarded serves kind]
  · rw [ht, ← State.takeFrame_of_echo (serve := fun t => (t, refusal .unknownKind)) takes room echo other]
    exact congrArg Host.Outcome.next (if_pos ⟨echo, other⟩)
  · rw [exec_of_request frame, State.takeFrame_of_echo takes room echo other, ht]
  · refine congrArg (fun r => Host.Outcome.next (s.setReceiver r)) ?_
    rw [collecting, discardFrame_framingError]
  · refine congrArg (fun r => Host.Outcome.next (s.setReceiver r)) ?_
    rw [collecting, absent]
    exact if_neg (mt gapExceeded_iff.mp (Nat.not_lt_of_le inTime))
  · obtain ⟨n, rfl⟩ := Option.ne_none_iff_exists'.mp got
    obtain ⟨h, rfl⟩ := Option.ne_none_iff_exists'.mp low
    refine congrArg (fun r => Host.Outcome.next (s.setReceiver r)) ?_
    rw [collecting]
    exact if_neg (mt gapExceeded_iff.mp (Nat.not_lt_of_le inTime))
  · refine congrArg (fun r => Host.Outcome.next (s.setReceiver r)) ?_
    rw [collecting, discardFrame_gap past]
    rfl

end Sys2Proof.Machine
end
